-- ==== Sys2Proof/Word.lean ====
section
/-! DEFINITION. The widths the spec names (spec/10_state.md R10 to R18, spec/30_encoding.md R51). -/

namespace Sys2Proof

/-- 8 bits, unsigned (R6). -/
abbrev Byte := BitVec 8

/-- A 16-bit command word or raw data word (R59, R120). -/
abbrev Half := BitVec 16

/-- A request word REQ (R50, R51). -/
abbrev ReqWord := BitVec 32

/-- A result register R0 or R1 of the response (R18). -/
abbrev Long := BitVec 48

/-- The error information INFO of the response (R18). -/
abbrev Info := BitVec 24

end Sys2Proof
end

