-- ==== Sys2Proof/Syntax.lean ====
section
/-! DEFINITION. The instructions: one constructor per row of spec/opcode_table.json, twelve operations (format REQ32,
spec/30_encoding.md R53) and twenty-five emitted command words (format WIRE16, spec/41_command_encoder.md R81 to R83). -/

namespace Sys2Proof

/-- An instruction. A selector is a natural number, as R52 asks of an inductive type of operations: the range checks
are the operation's own. The command words carry no operand. -/
inductive Instr where
  /-- CRC8: seed REQ[23:16], poly REQ[15:8], payload DIN (R73). -/
  | crc8 (seed poly : Byte) (din : List Byte)
  /-- VALIDATE: payload DIN (R142). -/
  | validate (din : List Byte)
  /-- START_SS: rep REQ[3:0] (R101). -/
  | startSs (rep : Nat)
  /-- START_PER: rep REQ[3:0], rate REQ[7:4] (R102). -/
  | startPer (rep rate : Nat)
  /-- GET_CYCLE: prefer_minimum REQ[0] (R104). -/
  | getCycle (preferMin : Bool)
  /-- READ_MEAS (R124). -/
  | readMeas
  /-- NEXT (R127). -/
  | iterNext
  /-- GET_ID (R125). -/
  | getId
  /-- GET_STATUS (R126). -/
  | getStatus
  /-- SOFT_RESET (R105). -/
  | softReset
  /-- SET_HEATER: on REQ[0] (R85). -/
  | setHeater (on : Bool)
  /-- BREAK (R106). -/
  | sendBreak
  /-- CMD_FETCH: sent by READ_MEAS and NEXT in Periodic (R81). -/
  | cmdFetch
  /-- CMD_READ_ID: sent by GET_ID (R81). -/
  | cmdReadId
  /-- CMD_READ_STATUS: sent by GET_STATUS (R81). -/
  | cmdReadStatus
  /-- CMD_SOFT_RESET: sent by SOFT_RESET (R81). -/
  | cmdSoftReset
  /-- CMD_HEATER_ON: sent by SET_HEATER on (R81). -/
  | cmdHeaterOn
  /-- CMD_HEATER_OFF: sent by SET_HEATER off (R81). -/
  | cmdHeaterOff
  /-- CMD_BREAK: sent by BREAK (R81). -/
  | cmdBreak
  /-- CMD_SS_LOW: sent by START_SS, rep=0 (R82). -/
  | cmdSsLow
  /-- CMD_SS_MEDIUM: sent by START_SS, rep=1 (R82). -/
  | cmdSsMedium
  /-- CMD_SS_HIGH: sent by START_SS, rep=2 (R82). -/
  | cmdSsHigh
  /-- CMD_PER_0_5HZ_LOW: sent by START_PER, rate=0, rep=0 (R83). -/
  | cmdPerHz05Low
  /-- CMD_PER_0_5HZ_MEDIUM: sent by START_PER, rate=0, rep=1 (R83). -/
  | cmdPerHz05Medium
  /-- CMD_PER_0_5HZ_HIGH: sent by START_PER, rate=0, rep=2 (R83). -/
  | cmdPerHz05High
  /-- CMD_PER_1HZ_LOW: sent by START_PER, rate=1, rep=0 (R83). -/
  | cmdPerHz1Low
  /-- CMD_PER_1HZ_MEDIUM: sent by START_PER, rate=1, rep=1 (R83). -/
  | cmdPerHz1Medium
  /-- CMD_PER_1HZ_HIGH: sent by START_PER, rate=1, rep=2 (R83). -/
  | cmdPerHz1High
  /-- CMD_PER_2HZ_LOW: sent by START_PER, rate=2, rep=0 (R83). -/
  | cmdPerHz2Low
  /-- CMD_PER_2HZ_MEDIUM: sent by START_PER, rate=2, rep=1 (R83). -/
  | cmdPerHz2Medium
  /-- CMD_PER_2HZ_HIGH: sent by START_PER, rate=2, rep=2 (R83). -/
  | cmdPerHz2High
  /-- CMD_PER_4HZ_LOW: sent by START_PER, rate=3, rep=0 (R83). -/
  | cmdPerHz4Low
  /-- CMD_PER_4HZ_MEDIUM: sent by START_PER, rate=3, rep=1 (R83). -/
  | cmdPerHz4Medium
  /-- CMD_PER_4HZ_HIGH: sent by START_PER, rate=3, rep=2 (R83). -/
  | cmdPerHz4High
  /-- CMD_PER_10HZ_LOW: sent by START_PER, rate=4, rep=0 (R83). -/
  | cmdPerHz10Low
  /-- CMD_PER_10HZ_MEDIUM: sent by START_PER, rate=4, rep=1 (R83). -/
  | cmdPerHz10Medium
  /-- CMD_PER_10HZ_HIGH: sent by START_PER, rate=4, rep=2 (R83). -/
  | cmdPerHz10High
  deriving DecidableEq, Repr

/-- What an instruction looks like outside the machine: a request word with its payload (R50), or a command word on
the wire (R59). DESIGN CHOICE (log 11): the host hands over requests only, and a command stands for one emission taken
on its own, so that the WIRE16 rows have a meaning that runs. -/
inductive Input where
  /-- A request REQ with the payload DIN that accompanies it (R50, R55). -/
  | request (word : ReqWord) (din : List Byte)
  /-- A command word (R59). -/
  | command (word : Half)
  deriving DecidableEq, Repr

end Sys2Proof
end

