-- ==== Sys2Proof/WellFormed.lean ====
section
/-! DEFINITION. Which instructions have an encoding: a selector that does not fit in its 4 bits cannot be encoded
(spec/30_encoding.md R52). -/

namespace Sys2Proof

/-- The selectors of the instruction fit in their fields LO and HI (R51, R52). -/
def Instr.WellFormed : Instr → Bool
  | .crc8 _ _ _ => true
  | .validate _ => true
  | .startSs rep => decide (rep < 16)
  | .startPer rep rate => decide (rep < 16) && decide (rate < 16)
  | .getCycle _ => true
  | .readMeas => true
  | .iterNext => true
  | .getId => true
  | .getStatus => true
  | .softReset => true
  | .setHeater _ => true
  | .sendBreak => true
  | .cmdFetch => true
  | .cmdReadId => true
  | .cmdReadStatus => true
  | .cmdSoftReset => true
  | .cmdHeaterOn => true
  | .cmdHeaterOff => true
  | .cmdBreak => true
  | .cmdSsLow => true
  | .cmdSsMedium => true
  | .cmdSsHigh => true
  | .cmdPerHz05Low => true
  | .cmdPerHz05Medium => true
  | .cmdPerHz05High => true
  | .cmdPerHz1Low => true
  | .cmdPerHz1Medium => true
  | .cmdPerHz1High => true
  | .cmdPerHz2Low => true
  | .cmdPerHz2Medium => true
  | .cmdPerHz2High => true
  | .cmdPerHz4Low => true
  | .cmdPerHz4Medium => true
  | .cmdPerHz4High => true
  | .cmdPerHz10Low => true
  | .cmdPerHz10Medium => true
  | .cmdPerHz10High => true

end Sys2Proof
end

