-- ==== Sys2Proof/Decode.lean ====
section
/-! DEFINITION. The decoder and, after it, the encoder: the request words of spec/30_encoding.md R51 to R56 and R64,
and the command words of spec/opcode_table.json (format WIRE16). -/

namespace Sys2Proof

/-- Why a word is no instruction. -/
inductive DecodeError where
  /-- OP is 0x0, 0xD, 0xE or 0xF (R54). -/
  | reservedOp
  /-- RSV is not 0 (R54). -/
  | reservedField
  /-- A 16-bit word outside R81 to R83 (R84). -/
  | notACommandWord
  deriving DecidableEq, Repr

/-- OP, bits 31:28 (R51). -/
def reqOp (w : ReqWord) : BitVec 4 := w.extractLsb' 28 4

/-- RSV, bits 27:24 (R51). -/
def reqRsv (w : ReqWord) : BitVec 4 := w.extractLsb' 24 4

/-- A, bits 23:16 (R51). -/
def reqA (w : ReqWord) : Byte := w.extractLsb' 16 8

/-- B, bits 15:8 (R51). -/
def reqB (w : ReqWord) : Byte := w.extractLsb' 8 8

/-- HI, bits 7:4 (R51). -/
def reqHi (w : ReqWord) : BitVec 4 := w.extractLsb' 4 4

/-- LO, bits 3:0 (R51). -/
def reqLo (w : ReqWord) : BitVec 4 := w.extractLsb' 0 4

/-- The flag operand REQ[0] of GET_CYCLE and SET_HEATER (R52). -/
def reqFlag (w : ReqWord) : Bool := w.getLsbD 0

/-- The operation that OP selects, with its operands (R52, R53). Fields an operation does not use are not looked at
(R56), and a payload is dropped by every operation but CRC8 and VALIDATE (R55). -/
def decodeOp (op : BitVec 4) (w : ReqWord) (din : List Byte) : Option Instr :=
  match op.toNat with
  | 0x1 => some (.crc8 (reqA w) (reqB w) din)
  | 0x2 => some (.validate din)
  | 0x3 => some (.startSs (reqLo w).toNat)
  | 0x4 => some (.startPer (reqLo w).toNat (reqHi w).toNat)
  | 0x5 => some (.getCycle (reqFlag w))
  | 0x6 => some .readMeas
  | 0x7 => some .iterNext
  | 0x8 => some .getId
  | 0x9 => some .getStatus
  | 0xA => some .softReset
  | 0xB => some (.setHeater (reqFlag w))
  | 0xC => some .sendBreak
  | _ => none

/-- The decoder of request words (R51 to R54). -/
def decodeRequest (w : ReqWord) (din : List Byte) : Except DecodeError Instr :=
  if reqRsv w = 0 then
    match decodeOp (reqOp w) w din with
    | some i => .ok i
    | none => .error .reservedOp
  else .error .reservedField

/-- The command words of the opcode table that have no selector or a repeatability only (R81, R82). -/
def fixedCommandRows : List (Half × Instr) :=
  [(0xE000, .cmdFetch), (0x3682, .cmdReadId), (0xF32D, .cmdReadStatus),
   (0x30A2, .cmdSoftReset), (0x306D, .cmdHeaterOn), (0x3066, .cmdHeaterOff),
   (0x3093, .cmdBreak), (0x2416, .cmdSsLow), (0x240B, .cmdSsMedium),
   (0x2400, .cmdSsHigh)]

/-- The periodic command words of the opcode table: the DEFAULT of PER_CMD (R83, D16; log 7). -/
def periodicCommandRows : List (Half × Instr) :=
  [(0x202F, .cmdPerHz05Low), (0x2024, .cmdPerHz05Medium), (0x2032, .cmdPerHz05High),
   (0x212D, .cmdPerHz1Low), (0x2126, .cmdPerHz1Medium), (0x2130, .cmdPerHz1High),
   (0x222B, .cmdPerHz2Low), (0x2220, .cmdPerHz2Medium), (0x2236, .cmdPerHz2High),
   (0x2329, .cmdPerHz4Low), (0x2322, .cmdPerHz4Medium), (0x2334, .cmdPerHz4High),
   (0x272A, .cmdPerHz10Low), (0x2721, .cmdPerHz10Medium), (0x2737, .cmdPerHz10High)]

/-- The WIRE16 rows of the opcode table. -/
def commandRows : List (Half × Instr) := fixedCommandRows ++ periodicCommandRows

/-- The row of a command word. -/
def decodeCommand (w : Half) : Except DecodeError Instr :=
  match commandRows.lookup w with
  | some i => .ok i
  | none => .error .notACommandWord

/-- The decoder, total on every input. -/
def decode : Input → Except DecodeError Instr
  | .request w din => decodeRequest w din
  | .command w => decodeCommand w

/-- A request word from its fields; every field an operation ignores is written 0 (R51, R64). -/
def packRequest (op : BitVec 4) (a b : Byte) (hi lo : BitVec 4) : ReqWord :=
  op ++ 0#4 ++ a ++ b ++ hi ++ lo

/-- The flag operand in bit 0 of LO (R52). -/
def flagField (f : Bool) : BitVec 4 := if f then 1 else 0

/-- The encoder (R51 to R53, R64; for the command words, the opcode table's WIRE16 rows). -/
def encode : Instr → Input
  | .crc8 seed poly din => .request (packRequest 0x1 seed poly 0 0) din
  | .validate din => .request (packRequest 0x2 0 0 0 0) din
  | .startSs rep => .request (packRequest 0x3 0 0 0 (BitVec.ofNat 4 rep)) []
  | .startPer rep rate => .request (packRequest 0x4 0 0 (BitVec.ofNat 4 rate) (BitVec.ofNat 4 rep)) []
  | .getCycle preferMin => .request (packRequest 0x5 0 0 0 (flagField preferMin)) []
  | .readMeas => .request (packRequest 0x6 0 0 0 0) []
  | .iterNext => .request (packRequest 0x7 0 0 0 0) []
  | .getId => .request (packRequest 0x8 0 0 0 0) []
  | .getStatus => .request (packRequest 0x9 0 0 0 0) []
  | .softReset => .request (packRequest 0xA 0 0 0 0) []
  | .setHeater on => .request (packRequest 0xB 0 0 0 (flagField on)) []
  | .sendBreak => .request (packRequest 0xC 0 0 0 0) []
  | .cmdFetch => .command 0xE000
  | .cmdReadId => .command 0x3682
  | .cmdReadStatus => .command 0xF32D
  | .cmdSoftReset => .command 0x30A2
  | .cmdHeaterOn => .command 0x306D
  | .cmdHeaterOff => .command 0x3066
  | .cmdBreak => .command 0x3093
  | .cmdSsLow => .command 0x2416
  | .cmdSsMedium => .command 0x240B
  | .cmdSsHigh => .command 0x2400
  | .cmdPerHz05Low => .command 0x202F
  | .cmdPerHz05Medium => .command 0x2024
  | .cmdPerHz05High => .command 0x2032
  | .cmdPerHz1Low => .command 0x212D
  | .cmdPerHz1Medium => .command 0x2126
  | .cmdPerHz1High => .command 0x2130
  | .cmdPerHz2Low => .command 0x222B
  | .cmdPerHz2Medium => .command 0x2220
  | .cmdPerHz2High => .command 0x2236
  | .cmdPerHz4Low => .command 0x2329
  | .cmdPerHz4Medium => .command 0x2322
  | .cmdPerHz4High => .command 0x2334
  | .cmdPerHz10Low => .command 0x272A
  | .cmdPerHz10Medium => .command 0x2721
  | .cmdPerHz10High => .command 0x2737

/-- The input that a word of the opcode table stands for: 32 bits a request with an empty payload, 16 bits a command
word. Neither has a byte order of its own in the spec: the table's bit 0 is bit 0 of the word (log 8). -/
def inputOfTable (nbits w : Nat) : Input :=
  if nbits = 16 then .command (BitVec.ofNat 16 w) else .request (BitVec.ofNat 32 w) []

/-- The instruction the decoder reads from a word numbered as the opcode table numbers it. -/
def decodeTableWord (nbits w : Nat) : Option Instr :=
  match decode (inputOfTable nbits w) with
  | .ok i => some i
  | .error _ => none

end Sys2Proof
end

