-- ==== Sys2Proof/Config.lean ====
section
/-! DEFINITION. The parameters the spec leaves open (R5), the transport's answers, and the free values: constants
with no body, of which nothing can be proved. -/

namespace Sys2Proof

/-- The second bytes of one sample rate's periodic command words, one per repeatability (R83). -/
structure RepBytes where
  low : Byte
  medium : Byte
  high : Byte
  deriving DecidableEq, Repr, Inhabited

/-- One sample rate's row of PER_CMD. R83 (ii): the first byte is the same for the three repeatabilities, so a row
holds it once. -/
structure PerRow where
  first : Byte
  second : RepBytes
  deriving DecidableEq, Repr, Inhabited

/-- PER_CMD, the 5 x 3 table of periodic command words (R83): by its type it has exactly fifteen entries (i) and
keeps constraint (ii). -/
structure PerTable where
  hz05 : PerRow
  hz1 : PerRow
  hz2 : PerRow
  hz4 : PerRow
  hz10 : PerRow
  deriving DecidableEq, Repr, Inhabited

/-- What a hardware reset binds the block to, besides CHECK_EN (R5, R24, R175): the device address of every transport
call and the periodic command table. DESIGN CHOICE (log 6): DEV_ADDR, of no stated type or width (D15), is a natural
number that no rule computes with. -/
structure Params where
  devAddr : Nat
  perCmd : PerTable
  deriving DecidableEq, Repr, Inhabited

/-- The bytes of an answer to a register read. A read of n bytes takes the first n, so that a successful read returns
exactly n bytes (R32, D14). -/
structure Bytes6 where
  b0 : Byte
  b1 : Byte
  b2 : Byte
  b3 : Byte
  b4 : Byte
  b5 : Byte
  deriving DecidableEq, Repr, Inhabited

/-- The transport's answer to one call (R31, R32, R38, R187). -/
inductive Answer where
  /-- The call succeeds. A write does not look at the bytes. -/
  | returned (bytes : Bytes6)
  /-- The call fails with a transport error. -/
  | failed
  /-- The call never returns (U13). -/
  | never
  deriving DecidableEq, Repr, Inhabited

/-- RSP.STATUS, the six ways an operation ends (R57, R150). Codes 6 and 7 are never produced. -/
inductive Status where
  | ok
  | invalidArgument
  | dataCorruption
  | transportFailure
  | unsupportedOperation
  | illegalRequest
  deriving DecidableEq, Repr, Inhabited

/-- RSP, the response record (R18, R57). -/
structure Response where
  status : Status
  r0 : Long
  r1 : Long
  info : Info
  deriving DecidableEq, Repr, Inhabited

/-- The open parameter CHECK_EN (R5, R14, D17), bound at reset. -/
opaque Config.checkEn : Bool

/-- The open parameters DEV_ADDR and PER_CMD (R5, D15, D16), bound at reset. -/
opaque Config.params : Params

/-- The transport's answer to a call for which State.answers holds none: any answer, under no law (R31, R32, U11 to
U13; log 9). -/
opaque Config.oracle : Nat → Answer

/-- RSP.R0 where the spec leaves it unspecified (R18, R57, R58, D25; log 10). -/
opaque Config.freeR0 : Nat → Long

/-- RSP.R1 where the spec leaves it unspecified (R18, R57, R58, D25; log 10). -/
opaque Config.freeR1 : Nat → Long

/-- RSP.INFO where the spec leaves it unspecified (R18, R57, D25; log 10). -/
opaque Config.freeInfo : Nat → Info

/-- RSP while an operation waits for ever on the transport: it is not valid there (R18, R187; log 5). -/
opaque Config.freeRsp : Nat → Response

/-- ACC after the operation that wrote it (R15, D25; log 10). -/
opaque Config.freeAcc : Nat → Byte

/-- FB[i] after the operation that wrote it: draw, then index (R16, D25; log 10). -/
opaque Config.freeByte : Nat → Nat → Byte

/-- FLEN after the operation that wrote it (R16, D25; log 10). -/
opaque Config.freeFlen : Nat → BitVec 3

/-- The cycle time read from a register that holds no value: no run reaches a state that reads it (R12, R13, R25, U4;
log 1). It keeps the 32 bits of R104's result. -/
opaque Config.freeCycle : Nat → BitVec 32

end Sys2Proof
end

