-- ==== Sys2Proof/Machine/State.lean ====
section
/-! DEFINITION. The state of the block: every register of spec/10_state.md R10, the sequencer (R17), the event history
(spec/20_memory.md R44), the parameters a reset binds, and the inputs a step reads. Plain data only. -/

namespace Sys2Proof.Machine

/-- MODE, the acquisition mode (R11). Code 3 is unreachable, so the type has no such value (U8). -/
inductive Mode where
  | idle
  | singleShot
  | periodic
  deriving DecidableEq, Repr

/-- REP, the repeatability (R12): selectors 0, 1, 2. -/
inductive Rep where
  | low
  | medium
  | high
  deriving DecidableEq, Repr

/-- RATE, the sample rate (R13): selectors 0 to 4 for 0.5, 1, 2, 4, 10 Hz. -/
inductive Rate where
  | hz05
  | hz1
  | hz2
  | hz4
  | hz10
  deriving DecidableEq, Repr

/-- Why an argument is refused (R57, R151): reasons 1, 2, 3. -/
inductive Reason where
  | repeatability
  | sampleRate
  | bufferLength
  deriving DecidableEq, Repr

/-- Which transport call failed (R57, R153; F(kind) of R44). -/
inductive Call where
  | write
  | read
  deriving DecidableEq, Repr

/-- The two places a sub-frame can stand: offsets 0 and 3 (R36). -/
inductive SubFrame where
  | first
  | second
  deriving DecidableEq, Repr

/-- The errors an operation can end with, with the information each records (R151 to R155). -/
inductive Err where
  | invalidArgument (reason : Reason)
  | dataCorruption (computed expected : Byte) (place : SubFrame)
  | transportFailure (call : Call)
  | unsupportedOperation (mode : Mode)
  | illegalRequest
  deriving DecidableEq, Repr

/-- What an operation returns when it ends OK (R58). -/
inductive Result where
  /-- No result: R0 and R1 are unspecified. -/
  | nothing
  /-- A result in R0; R1 is unspecified. -/
  | value (r0 : Long)
  /-- A reading: T_PICO in R0, RH_PICO in R1. -/
  | reading (tPico rhPico : Long)
  deriving DecidableEq, Repr

/-- An event of the history (R44). -/
inductive Event where
  /-- W(addr, bytes) (R31). -/
  | write (addr : Nat) (bytes : List Byte)
  /-- R(addr, reg, n, bytes) (R32). -/
  | read (addr : Nat) (reg : Byte) (n : Nat) (bytes : List Byte)
  /-- S(us) (R33). -/
  | sleep (us : Nat)
  /-- F(kind): a failed call (R44). -/
  | failed (call : Call)
  deriving DecidableEq, Repr

/-- The sequencer as it stands between steps (R17, R187). An operation is atomic, so it is idle unless a transport
call never returned (log 5). -/
inductive Sequencer where
  /-- Waiting for a request. -/
  | idle
  /-- Inside an operation whose transport call never returns. -/
  | blocked
  deriving DecidableEq, Repr

/-- The frame buffer as memory: (address, byte) cells, addresses strictly rising in 0 to 5, no cell holding what an
unlisted address reads as (R16, R30; Memory.wf in Machine/Ops.lean; log 4). -/
abbrev Memory := List Host.Cell

/-- The state of the block. -/
structure State where
  /-- MODE (R11). -/
  mode : Mode
  /-- REP (R12); none is the spec's 'no value' (R12, R107, R176; log 1). -/
  rep : Option Rep
  /-- RATE (R13); none is the spec's 'no value' (R13, R107, R176; log 1). -/
  rate : Option Rate
  /-- CHECK_EN (R14). -/
  checkEn : Bool
  /-- ACC, the checksum accumulator (R15). -/
  acc : Byte
  /-- FB[0..5], the frame buffer (R16). -/
  fb : Memory
  /-- FLEN, the number of bytes in it (R16). -/
  flen : BitVec 3
  /-- RSP, the response record (R18). -/
  rsp : Response
  /-- The event history, oldest first (R23, R44). -/
  events : List Event
  /-- DEV_ADDR and PER_CMD as the reset bound them (R24, R175). No step writes them. -/
  params : Params
  /-- The host's requests not yet accepted, next first (R50, R192; log 8). -/
  inbox : List Input
  /-- The transport's coming answers, next first; where there is none the answer is Config.oracle's (R31, R32; log 9). -/
  answers : List Answer
  /-- The sequencer (R17, R187). -/
  seq : Sequencer
  /-- The model's own counter: which free value comes next (log 10). -/
  fresh : Nat
  deriving DecidableEq, Repr

/-- Why the machine stops. -/
inductive Fault where
  /-- Raised by step when an operation waits for ever on a transport call: the operation never ends and the block
  accepts no further request (R187, U13: stuck). Safe: the model has no step where the hardware makes none. -/
  | transportNeverReturned
  deriving DecidableEq, Repr

/-- Why an input has no meaning. -/
inductive Refusal where
  /-- Raised by exec for an instruction the model gives no meaning; no arm of exec raises it now. Safe. -/
  | notModelled (mnemonic : String)
  /-- Raised by step for a command input outside R81 to R83, which the block never sends (R84). Safe. -/
  | notACommandWord (word : Half)
  deriving DecidableEq, Repr

/-- RSP at reset. DESIGN CHOICE (log 3): the spec leaves it unspecified (R18, R175), the model takes code and fields 0. -/
def Response.reset : Response := { status := .ok, r0 := 0, r1 := 0, info := 0 }

/-- Hardware reset with a value of CHECK_EN and the other parameters: the source's construction (R175, R176). ACC, FB
and FLEN are unspecified there: DESIGN CHOICE 0 (log 3). -/
def State.resetWith (checkEn : Bool) (params : Params) : State where
  mode := .idle
  rep := none
  rate := none
  checkEn := checkEn
  acc := 0
  fb := []
  flen := 0
  rsp := Response.reset
  events := []
  params := params
  inbox := []
  answers := []
  seq := .idle
  fresh := 0

/-- The machine right after hardware reset, with the open parameters (R175). -/
def State.reset : State := State.resetWith Config.checkEn Config.params

end Sys2Proof.Machine
end

