-- ==== Sys2Proof/Machine/Flags.lean ====
section
/-! DEFINITION. The block has no flags and no condition codes (spec/10_state.md R19). What an operation tells the host
beside its result is RSP.STATUS and RSP.INFO: their codes stand here (spec/30_encoding.md R57), with the codes of MODE,
REP and RATE (R11 to R13). -/

namespace Sys2Proof.Machine

/-- The 3-bit code of a STATUS (R57, R150). -/
def statusCode : Status → BitVec 3
  | .ok => 0
  | .invalidArgument => 1
  | .dataCorruption => 2
  | .transportFailure => 3
  | .unsupportedOperation => 4
  | .illegalRequest => 5

/-- The 2-bit code of MODE (R11). -/
def modeCode : Mode → BitVec 2
  | .idle => 0
  | .singleShot => 1
  | .periodic => 2

/-- The 2-bit code of REP (R12). -/
def repCode : Rep → BitVec 2
  | .low => 0
  | .medium => 1
  | .high => 2

/-- The 3-bit code of RATE (R13). -/
def rateCode : Rate → BitVec 3
  | .hz05 => 0
  | .hz1 => 1
  | .hz2 => 2
  | .hz4 => 3
  | .hz10 => 4

/-- The reason of an InvalidArgument (R57, R151). -/
def reasonCode : Reason → Byte
  | .repeatability => 1
  | .sampleRate => 2
  | .bufferLength => 3

/-- The failing call of a TransportFailure (R57, R153). -/
def callCode : Call → Byte
  | .write => 1
  | .read => 2

/-- The offset of a sub-frame (R36, R57). -/
def placeCode : SubFrame → Byte
  | .first => 0
  | .second => 3

/-- STATUS of an error (R57). -/
def errStatus : Err → Status
  | .invalidArgument _ => .invalidArgument
  | .dataCorruption _ _ _ => .dataCorruption
  | .transportFailure _ => .transportFailure
  | .unsupportedOperation _ => .unsupportedOperation
  | .illegalRequest => .illegalRequest

/-- INFO from its three bytes: offset field, expected field, low field (R57). -/
def packInfo (hi mid lo : Byte) : Info := hi ++ mid ++ lo

/-- INFO of an error, or none where the spec leaves all of it unspecified (R57). DEDUCED (log 12): where R57 gives
INFO[7:0] only, the bits above are 0, as the vectors of spec/95_test_vectors.md write them. -/
def errInfo : Err → Option Info
  | .invalidArgument reason => some (packInfo 0 0 (reasonCode reason))
  | .dataCorruption computed expected place => some (packInfo (placeCode place) expected computed)
  | .transportFailure call => some (packInfo 0 0 (callCode call))
  | .unsupportedOperation mode => some (packInfo 0 0 ((modeCode mode).setWidth 8))
  | .illegalRequest => none

end Sys2Proof.Machine
end

