-- ==== Sys2Proof/Machine/Ops.lean ====
section
/-! DEFINITION. The shared operations: the frame buffer as memory, the named updates of State, the transport's
primitives (spec/20_memory.md R31 to R33), and how an operation ends: with a result, with an error (the block's only
exceptions, spec/60_exceptions.md R157, R158), or never (R187). -/

namespace Sys2Proof.Machine

/-! ### The frame buffer (R16, R30) -/

/-- What an unlisted address of the frame buffer reads as. DESIGN CHOICE (log 4): no operation reads a byte that it has
not written first, and the spec gives no reset contents (R16). -/
def Memory.unlisted : Byte := 0

/-- The byte of the cell at address a. -/
def Memory.lookup : Memory → Nat → Byte
  | [], _ => Memory.unlisted
  | c :: rest, a => if c.1 = a then c.2 else Memory.lookup rest a

/-- Put a cell in its place in a rising list. -/
def Memory.insert : Memory → Nat → Byte → Memory
  | [], a, b => [(a, b)]
  | c :: rest, a, b =>
    if a < c.1 then (a, b) :: c :: rest
    else if a = c.1 then (a, b) :: rest
    else c :: Memory.insert rest a b

/-- Take every cell at an address out. -/
def Memory.erase : Memory → Nat → Memory
  | [], _ => []
  | c :: rest, a => if c.1 = a then Memory.erase rest a else c :: Memory.erase rest a

/-- Read FB[i]. The index type has the six addresses the spec gives and no other (R30). -/
def Memory.read (m : Memory) (i : Fin 6) : Byte := m.lookup i.val

/-- Write FB[i]; writing what an unlisted address reads as takes the cell out, so equal contents are equal lists. -/
def Memory.write (m : Memory) (i : Fin 6) (b : Byte) : Memory :=
  if b = Memory.unlisted then m.erase i.val else m.insert i.val b

/-- The canonical form from address lo on: addresses rising and below 6, no cell with the unlisted byte. -/
def Memory.wfFrom : Nat → Memory → Bool
  | _, [] => true
  | lo, c :: rest =>
    decide (lo ≤ c.1) && decide (c.1 < 6) && decide (c.2 ≠ Memory.unlisted) && Memory.wfFrom (c.1 + 1) rest

/-- The canonical form of the frame buffer. -/
def Memory.wf (m : Memory) : Bool := Memory.wfFrom 0 m

/-- The six addresses, in order. -/
def fbIndices : List (Fin 6) := [0, 1, 2, 3, 4, 5]

/-- Write the given cells one after the other. -/
def Memory.writeAll : Memory → List (Fin 6 × Byte) → Memory
  | m, [] => m
  | m, p :: rest => Memory.writeAll (m.write p.1 p.2) rest

/-- FB[0..n-1] <- bytes, n being their number (R32, R142). -/
def Memory.storeFrame (m : Memory) (bytes : List Byte) : Memory := m.writeAll (fbIndices.zip bytes)

/-- FB[0..n-1] as a sequence. -/
def Memory.frame (m : Memory) (n : Nat) : List Byte := (fbIndices.take n).map m.read

/-! ### Named updates of State -/

/-- Append an event to the history (R44). -/
def State.logEvent (s : State) (e : Event) : State := { s with events := s.events ++ [e] }

/-- ACC <- a (R15). -/
def State.setAcc (s : State) (a : Byte) : State := { s with acc := a }

/-- MODE <- m (R11). -/
def State.setMode (s : State) (m : Mode) : State := { s with mode := m }

/-- REP <- r (R12). -/
def State.setRep (s : State) (r : Rep) : State := { s with rep := some r }

/-- RATE <- r (R13). -/
def State.setRate (s : State) (r : Rate) : State := { s with rate := some r }

/-- FB[0..n-1] <- bytes and FLEN <- n, n being their number (R32, R142). -/
def State.loadFrame (s : State) (bytes : List Byte) : State :=
  { s with fb := s.fb.storeFrame bytes, flen := BitVec.ofNat 3 bytes.length }

/-- The operation that wrote ACC is over: ACC holds any value (R15, D25; log 10). -/
def State.dropAcc (s : State) : State := { s with acc := Config.freeAcc s.fresh, fresh := s.fresh + 1 }

/-- The operation that wrote FB[0..n-1] and FLEN is over: they hold any value (R16, D25; log 10). -/
def State.dropFrame (s : State) (n : Nat) : State :=
  { s with
    fb := s.fb.storeFrame ((fbIndices.take n).map fun i => Config.freeByte s.fresh i.val)
    flen := Config.freeFlen s.fresh
    fresh := s.fresh + 1 }

/-- A free value has been used. -/
def State.bump (s : State) : State := { s with fresh := s.fresh + 1 }

/-- Take the next input from the host's requests (R50). -/
def State.dropInput (s : State) : State := { s with inbox := s.inbox.tail }

/-- The transport's answer to the next call: the next of the answers given, else any answer (R31, R32, U11 to U13). -/
def State.nextAnswer (s : State) : Answer :=
  match s.answers with
  | [] => Config.oracle s.fresh
  | a :: _ => a

/-- That answer has been used. -/
def State.dropAnswer (s : State) : State := { s with answers := s.answers.tail, fresh := s.fresh + 1 }

/-! ### How an operation ends -/

/-- Write the response record; none stands for a field the spec leaves unspecified, which takes a free value. The
sequencer is idle after every response (R17, R18, R57, D25). -/
def State.respond (s : State) (status : Status) (r0 r1 : Option Long) (info : Option Info) : State :=
  { s with
    rsp :=
      { status := status
        r0 := r0.getD (Config.freeR0 s.fresh)
        r1 := r1.getD (Config.freeR1 s.fresh)
        info := info.getD (Config.freeInfo s.fresh) }
    seq := .idle
    fresh := s.fresh + 1 }

/-- End OK with a result (R57, R58). -/
def respondOk (r : Result) (s : State) : State :=
  match r with
  | .nothing => s.respond .ok none none none
  | .value r0 => s.respond .ok (some r0) none none
  | .reading t rh => s.respond .ok (some t) (some rh) none

/-- Taking an error, the one shared operation (R157, R158): STATUS and INFO are written, R0 and R1 are unspecified;
no state is saved, no mode changes, control goes nowhere. There is no return from it (R159). -/
def respondError (e : Err) (s : State) : State := s.respond (errStatus e) none none (errInfo e)

/-- The operation waits for ever on the transport: no response comes, and RSP is not valid (R18, R187). -/
def State.block (s : State) : State := { s with rsp := Config.freeRsp s.fresh, seq := .blocked, fresh := s.fresh + 1 }

/-- How far the steps of an operation have come: on to the next step with a value, stopped by an error, or waiting for
ever (R6 raise and return, R157, R187). -/
inductive Flow (α : Type) where
  | ok (a : α) (s : State)
  | raise (e : Err) (s : State)
  | hang (s : State)

/-- The next steps of an operation run only if the earlier ones did not end it (R157). -/
def Flow.bind {α β : Type} (x : Flow α) (f : α → State → Flow β) : Flow β :=
  match x with
  | .ok a s => f a s
  | .raise e s => .raise e s
  | .hang s => .hang s

/-- Change the state in which an operation ends. One that never ends is left as it is. -/
def Flow.mapState {α : Type} (g : State → State) (x : Flow α) : Flow α :=
  match x with
  | .ok a s => .ok a (g s)
  | .raise e s => .raise e (g s)
  | .hang s => .hang s

/-- The state after an operation (R157, R187). -/
def complete (x : Flow Result) : State :=
  match x with
  | .ok r s => respondOk r s
  | .raise e s => respondError e s
  | .hang s => s.block

/-- An operation's outcome: always a next state, an error being a response (R150, R158). -/
def answer (x : Flow Result) : Host.Outcome State Fault Refusal := .next (complete x)

/-- The answer to a request word that selects no operation: nothing changes but RSP (R54, R155). -/
def answerIllegal (s : State) : State := respondError .illegalRequest s

/-! ### The transport's primitives (R31 to R33) -/

/-- REG_ADDR, the register address of every read (R5, R30). -/
def regAddr : Byte := 0x00

/-- The first n bytes of an answer (R32). -/
def firstBytes (n : Nat) (b : Bytes6) : List Byte := [b.b0, b.b1, b.b2, b.b3, b.b4, b.b5].take n

/-- BusWrite(DEV_ADDR, bytes) (R31): the event W, or F(write) and TransportFailure. -/
def busWrite (bytes : List Byte) (s : State) : Flow Unit :=
  match s.nextAnswer with
  | .returned _ => .ok () (s.dropAnswer.logEvent (.write s.params.devAddr bytes))
  | .failed => .raise (.transportFailure .write) (s.dropAnswer.logEvent (.failed .write))
  | .never => .hang s.dropAnswer

/-- BusReadReg(DEV_ADDR, 0x00, n) (R32): n bytes and the event R, or F(read) and TransportFailure. -/
def busReadReg (n : Nat) (s : State) : Flow (List Byte) :=
  match s.nextAnswer with
  | .returned b =>
    .ok (firstBytes n b) (s.dropAnswer.logEvent (.read s.params.devAddr regAddr n (firstBytes n b)))
  | .failed => .raise (.transportFailure .read) (s.dropAnswer.logEvent (.failed .read))
  | .never => .hang s.dropAnswer

/-- Sleep(us) (R33): an event, no time. -/
def sleep (us : Nat) (s : State) : State := s.logEvent (.sleep us)

/-- The two bytes of a command word, high byte first (R35, R59). -/
def commandBytes (w : Half) : List Byte := [w.extractLsb' 8 8, w.extractLsb' 0 8]

/-- send_cmd(w): the two bytes of the word in one write (R80). -/
def sendCmd (w : Half) (s : State) : Flow Unit := busWrite (commandBytes w) s

end Sys2Proof.Machine
end

