-- ==== Sys2Proof/Machine/Operands.lean ====
section
/-! DEFINITION. The operand forms: selectors and their range checks (spec/30_encoding.md R52, spec/10_state.md R25),
the payload's port (R55, R71), and the words taken from the frame buffer (spec/43_readout_decode.md R120). -/

namespace Sys2Proof.Machine

/-- The repeatability of a selector, or none where it is out of range: {0, 1, 2} (R12, R25, R52). -/
def repOf : Nat → Option Rep
  | 0 => some .low
  | 1 => some .medium
  | 2 => some .high
  | _ => none

/-- The sample rate of a selector, or none where it is out of range: {0, 1, 2, 3, 4} (R13, R25, R52). -/
def rateOf : Nat → Option Rate
  | 0 => some .hz05
  | 1 => some .hz1
  | 2 => some .hz2
  | 3 => some .hz4
  | 4 => some .hz10
  | _ => none

/-- trunc8(v) = v mod 256 (R6): what the port does to a wider integer (R55, R71). -/
def trunc8 (v : Nat) : Byte := BitVec.ofNat 8 v

/-- A payload of integers as it enters the block (R55, R71). -/
def payloadOf (ints : List Nat) : List Byte := ints.map trunc8

/-- word(0) = (FB[0] << 8) | FB[1] (R120). -/
def wordAt0 (m : Memory) : Half := m.read 0 ++ m.read 1

/-- word(3) = (FB[3] << 8) | FB[4] (R120). -/
def wordAt3 (m : Memory) : Half := m.read 3 ++ m.read 4

end Sys2Proof.Machine
end

