-- ==== Sys2Proof/Machine/Commands.lean ====
section
/-! DEFINITION. The sensor command encoder: every command word, the emission of one, and SET_HEATER
(spec/41_command_encoder.md). -/

namespace Sys2Proof.Machine

/-- CMD_FETCH (R81). -/
def fetchWord : Half := 0xE000

/-- CMD_READ_ID (R81). -/
def readIdWord : Half := 0x3682

/-- CMD_SOFT_RESET (R81). -/
def softResetWord : Half := 0x30A2

/-- CMD_HEATER_ON (R81). -/
def heaterOnWord : Half := 0x306D

/-- CMD_HEATER_OFF (R81). -/
def heaterOffWord : Half := 0x3066

/-- CMD_BREAK (R81). -/
def breakWord : Half := 0x3093

/-- CMD_READ_STATUS (R81). -/
def readStatusWord : Half := 0xF32D

/-- SS_CMD (R82). -/
def ssCmd : Rep → Half
  | .low => 0x2416
  | .medium => 0x240B
  | .high => 0x2400

/-- The row of PER_CMD for a sample rate (R83). -/
def perRow (t : PerTable) : Rate → PerRow
  | .hz05 => t.hz05
  | .hz1 => t.hz1
  | .hz2 => t.hz2
  | .hz4 => t.hz4
  | .hz10 => t.hz10

/-- The second byte of a row for a repeatability (R83). -/
def repByte (b : RepBytes) : Rep → Byte
  | .low => b.low
  | .medium => b.medium
  | .high => b.high

/-- PER_CMD[rate][rep] (R83). -/
def perCmd (t : PerTable) (rate : Rate) (rep : Rep) : Half := (perRow t rate).first ++ repByte (perRow t rate).second rep

/-- The default of PER_CMD (R83, D16, G1). PRESUMED by the spec itself, from general knowledge and not from its source
(log 7): no reset and no step takes it, and a statement that names a periodic byte says that it assumes it. -/
def perCmdDefault : PerTable where
  hz05 := { first := 0x20, second := { low := 0x2F, medium := 0x24, high := 0x32 } }
  hz1 := { first := 0x21, second := { low := 0x2D, medium := 0x26, high := 0x30 } }
  hz2 := { first := 0x22, second := { low := 0x2B, medium := 0x20, high := 0x36 } }
  hz4 := { first := 0x23, second := { low := 0x29, medium := 0x22, high := 0x34 } }
  hz10 := { first := 0x27, second := { low := 0x2A, medium := 0x21, high := 0x37 } }

/-- An operation that sends one command, then does the rest of its steps and ends without a result (R80, R86). -/
def sendThen (w : Half) (rest : State → State) (s : State) : Flow Result :=
  (sendCmd w s).bind fun _ t => .ok .nothing (rest t)

/-- The steps of SET_HEATER (R85). -/
def setHeaterFlow (on : Bool) (s : State) : Flow Result :=
  sendThen (if on then heaterOnWord else heaterOffWord) (fun t => t) s

/-- SET_HEATER (R85). -/
def execSetHeater (on : Bool) (s : State) : Host.Outcome State Fault Refusal := answer (setHeaterFlow on s)

/-! ### The command words as instructions: one emission each (R59, R80; log 11) -/

/-- One send_cmd on its own (R80): the two bytes in one write. Its success answers nothing, since it is no operation;
its failure raises TransportFailure. -/
def emit (w : Half) (s : State) : Host.Outcome State Fault Refusal :=
  .next
    (match sendCmd w s with
    | .ok _ t => t
    | .raise e t => respondError e t
    | .hang t => t.block)

/-- CMD_FETCH (R81). -/
def execCmdFetch (s : State) : Host.Outcome State Fault Refusal := emit fetchWord s

/-- CMD_READ_ID (R81). -/
def execCmdReadId (s : State) : Host.Outcome State Fault Refusal := emit readIdWord s

/-- CMD_READ_STATUS (R81). -/
def execCmdReadStatus (s : State) : Host.Outcome State Fault Refusal := emit readStatusWord s

/-- CMD_SOFT_RESET (R81). -/
def execCmdSoftReset (s : State) : Host.Outcome State Fault Refusal := emit softResetWord s

/-- CMD_HEATER_ON (R81). -/
def execCmdHeaterOn (s : State) : Host.Outcome State Fault Refusal := emit heaterOnWord s

/-- CMD_HEATER_OFF (R81). -/
def execCmdHeaterOff (s : State) : Host.Outcome State Fault Refusal := emit heaterOffWord s

/-- CMD_BREAK (R81). -/
def execCmdBreak (s : State) : Host.Outcome State Fault Refusal := emit breakWord s

/-- CMD_SS_LOW (R82). -/
def execCmdSsLow (s : State) : Host.Outcome State Fault Refusal := emit (ssCmd .low) s

/-- CMD_SS_MEDIUM (R82). -/
def execCmdSsMedium (s : State) : Host.Outcome State Fault Refusal := emit (ssCmd .medium) s

/-- CMD_SS_HIGH (R82). -/
def execCmdSsHigh (s : State) : Host.Outcome State Fault Refusal := emit (ssCmd .high) s

/-- CMD_PER_0_5HZ_LOW (R83). -/
def execCmdPerHz05Low (s : State) : Host.Outcome State Fault Refusal := emit (perCmd s.params.perCmd .hz05 .low) s

/-- CMD_PER_0_5HZ_MEDIUM (R83). -/
def execCmdPerHz05Medium (s : State) : Host.Outcome State Fault Refusal := emit (perCmd s.params.perCmd .hz05 .medium) s

/-- CMD_PER_0_5HZ_HIGH (R83). -/
def execCmdPerHz05High (s : State) : Host.Outcome State Fault Refusal := emit (perCmd s.params.perCmd .hz05 .high) s

/-- CMD_PER_1HZ_LOW (R83). -/
def execCmdPerHz1Low (s : State) : Host.Outcome State Fault Refusal := emit (perCmd s.params.perCmd .hz1 .low) s

/-- CMD_PER_1HZ_MEDIUM (R83). -/
def execCmdPerHz1Medium (s : State) : Host.Outcome State Fault Refusal := emit (perCmd s.params.perCmd .hz1 .medium) s

/-- CMD_PER_1HZ_HIGH (R83). -/
def execCmdPerHz1High (s : State) : Host.Outcome State Fault Refusal := emit (perCmd s.params.perCmd .hz1 .high) s

/-- CMD_PER_2HZ_LOW (R83). -/
def execCmdPerHz2Low (s : State) : Host.Outcome State Fault Refusal := emit (perCmd s.params.perCmd .hz2 .low) s

/-- CMD_PER_2HZ_MEDIUM (R83). -/
def execCmdPerHz2Medium (s : State) : Host.Outcome State Fault Refusal := emit (perCmd s.params.perCmd .hz2 .medium) s

/-- CMD_PER_2HZ_HIGH (R83). -/
def execCmdPerHz2High (s : State) : Host.Outcome State Fault Refusal := emit (perCmd s.params.perCmd .hz2 .high) s

/-- CMD_PER_4HZ_LOW (R83). -/
def execCmdPerHz4Low (s : State) : Host.Outcome State Fault Refusal := emit (perCmd s.params.perCmd .hz4 .low) s

/-- CMD_PER_4HZ_MEDIUM (R83). -/
def execCmdPerHz4Medium (s : State) : Host.Outcome State Fault Refusal := emit (perCmd s.params.perCmd .hz4 .medium) s

/-- CMD_PER_4HZ_HIGH (R83). -/
def execCmdPerHz4High (s : State) : Host.Outcome State Fault Refusal := emit (perCmd s.params.perCmd .hz4 .high) s

/-- CMD_PER_10HZ_LOW (R83). -/
def execCmdPerHz10Low (s : State) : Host.Outcome State Fault Refusal := emit (perCmd s.params.perCmd .hz10 .low) s

/-- CMD_PER_10HZ_MEDIUM (R83). -/
def execCmdPerHz10Medium (s : State) : Host.Outcome State Fault Refusal := emit (perCmd s.params.perCmd .hz10 .medium) s

/-- CMD_PER_10HZ_HIGH (R83). -/
def execCmdPerHz10High (s : State) : Host.Outcome State Fault Refusal := emit (perCmd s.params.perCmd .hz10 .high) s

end Sys2Proof.Machine
end

