-- ==== Sys2Proof/Machine/Acquisition.lean ====
section
/-! DEFINITION. The acquisition mode state machine: START_SS, START_PER, GET_CYCLE, SOFT_RESET and BREAK
(spec/42_acquisition_mode.md). -/

namespace Sys2Proof.Machine

/-- SS_MIN_US (R104). -/
def ssMinUs : Rep → Nat
  | .low => 2500
  | .medium => 4500
  | .high => 12500

/-- SS_MAX_US (R104). -/
def ssMaxUs : Rep → Nat
  | .low => 4500
  | .medium => 6500
  | .high => 15500

/-- PER_US (R104, R108). -/
def perUs : Rate → Nat
  | .hz05 => 2000000
  | .hz1 => 1000000
  | .hz2 => 500000
  | .hz4 => 250000
  | .hz10 => 100000

/-- The steps of START_SS (R101): range check, command, MODE and REP. -/
def startSsFlow (rep : Nat) (s : State) : Flow Result :=
  match repOf rep with
  | none => .raise (.invalidArgument .repeatability) s
  | some r => sendThen (ssCmd r) (fun t => (t.setMode .singleShot).setRep r) s

/-- START_SS (R101). -/
def execStartSs (rep : Nat) (s : State) : Host.Outcome State Fault Refusal := answer (startSsFlow rep s)

/-- The steps of START_PER (R102): repeatability check, then sample rate check, command, MODE, REP and RATE. -/
def startPerFlow (rep rate : Nat) (s : State) : Flow Result :=
  match repOf rep, rateOf rate with
  | none, _ => .raise (.invalidArgument .repeatability) s
  | some _, none => .raise (.invalidArgument .sampleRate) s
  | some r, some q =>
    sendThen (perCmd s.params.perCmd q r) (fun t => ((t.setMode .periodic).setRep r).setRate q) s

/-- START_PER (R102). -/
def execStartPer (rep rate : Nat) (s : State) : Host.Outcome State Fault Refusal := answer (startPerFlow rep rate s)

/-- A cycle time in R0 (R58), or, for a register that holds no value, any 32-bit number: no run reaches that case
(R12, R13, R25, U4; log 1). -/
def cycleResult (us : Option Nat) (s : State) : Flow Result :=
  match us with
  | some n => .ok (.value (BitVec.ofNat 48 n)) s
  | none => .ok (.value ((Config.freeCycle s.fresh).setWidth 48)) s.bump

/-- The steps of GET_CYCLE (R104). -/
def getCycleFlow (preferMin : Bool) (s : State) : Flow Result :=
  match s.mode with
  | .idle => .raise (.unsupportedOperation s.mode) s
  | .singleShot => cycleResult (s.rep.map (if preferMin then ssMinUs else ssMaxUs)) s
  | .periodic => cycleResult (s.rate.map perUs) s

/-- GET_CYCLE (R104). -/
def execGetCycle (preferMin : Bool) (s : State) : Host.Outcome State Fault Refusal := answer (getCycleFlow preferMin s)

/-- The steps of SOFT_RESET (R105). -/
def softResetFlow (s : State) : Flow Result := sendThen softResetWord (fun t => t.setMode .idle) s

/-- SOFT_RESET (R105). -/
def execSoftReset (s : State) : Host.Outcome State Fault Refusal := answer (softResetFlow s)

/-- The steps of BREAK (R106). -/
def sendBreakFlow (s : State) : Flow Result := sendThen breakWord (fun t => t.setMode .idle) s

/-- BREAK (R106). -/
def execSendBreak (s : State) : Host.Outcome State Fault Refusal := answer (sendBreakFlow s)

end Sys2Proof.Machine
end

