-- ==== Sys2Proof/Machine/Crc.lean ====
section
/-! DEFINITION. The CRC-8 engine and CRC8 (spec/40_crc.md). -/

namespace Sys2Proof.Machine

/-- CRC_SEED (R5). -/
def crcSeed : Byte := 0xFF

/-- CRC_POLY (R5). -/
def crcPoly : Byte := 0x31

/-- The bit step (R70). -/
def crc8Bit (acc poly : Byte) : Byte := if acc.msb then (acc <<< 1) ^^^ poly else acc <<< 1

/-- So many bit steps. -/
def crc8Bits : Nat → Byte → Byte → Byte
  | 0, acc, _ => acc
  | n + 1, acc, poly => crc8Bits n (crc8Bit acc poly) poly

/-- The byte step: exclusive or, then exactly eight bit steps (R71). -/
def crc8Byte (acc b poly : Byte) : Byte := crc8Bits 8 (acc ^^^ b) poly

/-- The sequence function, from element 0 on (R72). -/
def crc8 : List Byte → Byte → Byte → Byte
  | [], seed, _ => seed
  | b :: rest, seed, poly => crc8 rest (crc8Byte seed b poly) poly

/-- The device's instance (R74). -/
def crc8s (seq : List Byte) : Byte := crc8 seq crcSeed crcPoly

/-- The steps of CRC8 (R73): ACC holds the checksum at the end of the computation and is any value after the
operation (R15). -/
def crc8Flow (seed poly : Byte) (din : List Byte) (s : State) : Flow Result :=
  let s1 := s.setAcc (crc8 din seed poly)
  .ok (.value (s1.acc.setWidth 48)) s1.dropAcc

/-- CRC8 (R73). -/
def execCrc8 (seed poly : Byte) (din : List Byte) (s : State) : Host.Outcome State Fault Refusal :=
  answer (crc8Flow seed poly din s)

end Sys2Proof.Machine
end

