-- ==== Sys2Proof/Machine/Validator.lean ====
section
/-! DEFINITION. The frame validator and VALIDATE (spec/44_frame_validate.md). -/

namespace Sys2Proof.Machine

/-- Check one sub-frame: its two data bytes against its checksum byte (R141). ACC takes the computed checksum (R15). -/
def checkSubFrame (place : SubFrame) (d0 d1 expected : Byte) (s : State) : Flow Unit :=
  let s1 := s.setAcc (crc8s [d0, d1])
  if s1.acc = expected then .ok () s1 else .raise (.dataCorruption s1.acc expected place) s1

/-- validate(buf) (R141): lengths 3 and 6 only, sub-frames in rising offset, the first mismatch ends the check. -/
def validate (buf : List Byte) (s : State) : Flow Unit :=
  match buf with
  | [d0, d1, c0] => checkSubFrame .first d0 d1 c0 s
  | [d0, d1, c0, e0, e1, c1] =>
    (checkSubFrame .first d0 d1 c0 s).bind fun _ t => checkSubFrame .second e0 e1 c1 t
  | _ => .raise (.invalidArgument .bufferLength) s

/-- The steps of VALIDATE (R142). A payload of 3 or 6 bytes is loaded into the frame buffer first; one of another
length is not. FB, FLEN and ACC are any value after the operation where it wrote them (R15, R16). -/
def validateFlow (din : List Byte) (s : State) : Flow Result :=
  if din.length = 3 ∨ din.length = 6 then
    ((validate din (s.loadFrame din)).mapState fun t => t.dropAcc.dropFrame din.length).bind fun _ t =>
      .ok .nothing t
  else (validate din s).bind fun _ t => .ok .nothing t

/-- VALIDATE (R142). -/
def execValidate (din : List Byte) (s : State) : Host.Outcome State Fault Refusal := answer (validateFlow din s)

end Sys2Proof.Machine
end

