-- ==== Sys2Proof/Machine/Readout.lean ====
section
/-! DEFINITION. The linear decoder and the readout operations READ_MEAS, NEXT, GET_ID and GET_STATUS
(spec/43_readout_decode.md). -/

namespace Sys2Proof.Machine

/-- T_PICO(raw) = raw * 2670328832 - 45000000000000, 48-bit two's complement, units of 10^-12 degrees Celsius (R123). -/
def tPico (raw : Half) : Long := BitVec.ofInt 48 ((raw.toNat : Int) * 2670328832 - 45000000000000)

/-- RH_PICO(raw) = raw * 1525902190, 48-bit unsigned, units of 10^-12 percent (R123). -/
def rhPico (raw : Half) : Long := BitVec.ofNat 48 (raw.toNat * 1525902190)

/-- decode_meas() (R123). -/
def decodeMeas (m : Memory) : Result := .reading (tPico (wordAt0 m)) (rhPico (wordAt3 m))

/-- decode_id(): the bytes 0, 1, 3, 4; bytes 2 and 5 are checksums (R35 c, R125). -/
def decodeId (m : Memory) : Result :=
  .value ((m.read 0 ++ m.read 1 ++ m.read 3 ++ m.read 4 : BitVec 32).setWidth 48)

/-- decode_status() (R126). -/
def decodeStatus (m : Memory) : Result := .value ((wordAt0 m).setWidth 48)

/-- SETTLE_US (R5, R33). -/
def settleUs : Nat := 500

/-- The check of the frame just read: only if CHECK_EN = 1 (R14, R143). -/
def checkLoaded (n : Nat) (s : State) : Flow Unit :=
  if s.checkEn then validate (s.fb.frame n) s else .ok () s

/-- The operation is over: FB[0..n-1] and FLEN are any value, and so is ACC if a checksum was computed (R15, R16). -/
def dropWorking (n : Nat) (checked : Bool) (s : State) : State := (if checked then s.dropAcc else s).dropFrame n

/-- Check and decode the frame in the buffer (R143, R124 to R126). -/
def decodeLoaded (n : Nat) (dec : Memory → Result) (s : State) : Flow Result :=
  ((checkLoaded n s).bind fun _ t => .ok (dec t.fb) t).mapState (dropWorking n s.checkEn)

/-- Read n bytes into the frame buffer, check them, decode them (R124 to R126). -/
def readout (n : Nat) (dec : Memory → Result) (s : State) : Flow Result :=
  (busReadReg n s).bind fun bytes t => decodeLoaded n dec (t.loadFrame bytes)

/-- The fetch command of READ_MEAS and NEXT, sent in Periodic only (R124). -/
def fetchIfPeriodic (s : State) : Flow Unit :=
  match s.mode with
  | .periodic => sendCmd fetchWord s
  | .idle | .singleShot => .ok () s

/-- The steps of READ_MEAS (R124). -/
def readMeasFlow (s : State) : Flow Result := (fetchIfPeriodic s).bind fun _ t => readout 6 decodeMeas t

/-- READ_MEAS (R124). -/
def execReadMeas (s : State) : Host.Outcome State Fault Refusal := answer (readMeasFlow s)

/-- The steps of NEXT (R127): unsupported unless Periodic, else exactly READ_MEAS. -/
def iterNextFlow (s : State) : Flow Result :=
  match s.mode with
  | .periodic => readMeasFlow s
  | .idle | .singleShot => .raise (.unsupportedOperation s.mode) s

/-- NEXT (R127). -/
def execIterNext (s : State) : Host.Outcome State Fault Refusal := answer (iterNextFlow s)

/-- Send a command, let the device settle, read (R125, R126). -/
def commandedReadout (w : Half) (n : Nat) (dec : Memory → Result) (s : State) : Flow Result :=
  (sendCmd w s).bind fun _ t => readout n dec (sleep settleUs t)

/-- GET_ID (R125). -/
def execGetId (s : State) : Host.Outcome State Fault Refusal := answer (commandedReadout readIdWord 6 decodeId s)

/-- GET_STATUS (R126). -/
def execGetStatus (s : State) : Host.Outcome State Fault Refusal :=
  answer (commandedReadout readStatusWord 3 decodeStatus s)

end Sys2Proof.Machine
end

