-- ==== Sys2Proof/Machine/Dispatch.lean ====
section
/-! DEFINITION. One arm per constructor of Instr, each one direct call of the instruction's meaning. -/

namespace Sys2Proof.Machine

def exec (i : Instr) (s : State) : Host.Outcome State Fault Refusal :=
  match i with
  | .crc8 seed poly din => Sys2Proof.Machine.execCrc8 seed poly din s
  | .validate din => Sys2Proof.Machine.execValidate din s
  | .startSs rep => Sys2Proof.Machine.execStartSs rep s
  | .startPer rep rate => Sys2Proof.Machine.execStartPer rep rate s
  | .getCycle preferMin => Sys2Proof.Machine.execGetCycle preferMin s
  | .readMeas => Sys2Proof.Machine.execReadMeas s
  | .iterNext => Sys2Proof.Machine.execIterNext s
  | .getId => Sys2Proof.Machine.execGetId s
  | .getStatus => Sys2Proof.Machine.execGetStatus s
  | .softReset => Sys2Proof.Machine.execSoftReset s
  | .setHeater on => Sys2Proof.Machine.execSetHeater on s
  | .sendBreak => Sys2Proof.Machine.execSendBreak s
  | .cmdFetch => Sys2Proof.Machine.execCmdFetch s
  | .cmdReadId => Sys2Proof.Machine.execCmdReadId s
  | .cmdReadStatus => Sys2Proof.Machine.execCmdReadStatus s
  | .cmdSoftReset => Sys2Proof.Machine.execCmdSoftReset s
  | .cmdHeaterOn => Sys2Proof.Machine.execCmdHeaterOn s
  | .cmdHeaterOff => Sys2Proof.Machine.execCmdHeaterOff s
  | .cmdBreak => Sys2Proof.Machine.execCmdBreak s
  | .cmdSsLow => Sys2Proof.Machine.execCmdSsLow s
  | .cmdSsMedium => Sys2Proof.Machine.execCmdSsMedium s
  | .cmdSsHigh => Sys2Proof.Machine.execCmdSsHigh s
  | .cmdPerHz05Low => Sys2Proof.Machine.execCmdPerHz05Low s
  | .cmdPerHz05Medium => Sys2Proof.Machine.execCmdPerHz05Medium s
  | .cmdPerHz05High => Sys2Proof.Machine.execCmdPerHz05High s
  | .cmdPerHz1Low => Sys2Proof.Machine.execCmdPerHz1Low s
  | .cmdPerHz1Medium => Sys2Proof.Machine.execCmdPerHz1Medium s
  | .cmdPerHz1High => Sys2Proof.Machine.execCmdPerHz1High s
  | .cmdPerHz2Low => Sys2Proof.Machine.execCmdPerHz2Low s
  | .cmdPerHz2Medium => Sys2Proof.Machine.execCmdPerHz2Medium s
  | .cmdPerHz2High => Sys2Proof.Machine.execCmdPerHz2High s
  | .cmdPerHz4Low => Sys2Proof.Machine.execCmdPerHz4Low s
  | .cmdPerHz4Medium => Sys2Proof.Machine.execCmdPerHz4Medium s
  | .cmdPerHz4High => Sys2Proof.Machine.execCmdPerHz4High s
  | .cmdPerHz10Low => Sys2Proof.Machine.execCmdPerHz10Low s
  | .cmdPerHz10Medium => Sys2Proof.Machine.execCmdPerHz10Medium s
  | .cmdPerHz10High => Sys2Proof.Machine.execCmdPerHz10High s

end Sys2Proof.Machine
end

