-- ==== Sys2Proof/Machine/Step.lean ====
section
/-! DEFINITION. One step of the block: it accepts the host's next request, decodes it and runs it whole
(spec/10_state.md R17, spec/30_encoding.md R50 to R54). -/

namespace Sys2Proof.Machine

/-- What the block does with an accepted input (R50, R54). A request that selects no operation is answered with
IllegalRequest; a command word outside R81 to R83 is refused, since the block never sends one (R84). -/
def runInput (input : Input) (s : State) : Host.Outcome State Fault Refusal :=
  match decode input with
  | .ok i => exec i s
  | .error _ =>
    match input with
    | .request _ _ => .next (answerIllegal s)
    | .command w => .refused (.notACommandWord w)

/-- One step. With no request pending the block waits (R17); inside an operation that never ends it accepts none and
has no step (R187, U13). -/
def step (s : State) : Host.Outcome State Fault Refusal :=
  match s.seq with
  | .blocked => .fault .transportNeverReturned
  | .idle =>
    match s.inbox with
    | [] => .next s
    | input :: _ => runInput input s.dropInput

/-- s with the word as the next input, the block waiting for it (log 8: the host hands the block a request). -/
def State.withFetchWord (s : State) (nbits w : Nat) : State :=
  { s with inbox := inputOfTable nbits w :: s.inbox, seq := .idle }

end Sys2Proof.Machine
end

