-- ==== Sys2Proof/Safety.lean ====
section
/-! DEFINITION. The terms in which claims are stated: the invariants of spec/10_state.md R25 and spec/20_memory.md R31
to R37, what an instruction leaves unchanged, and which instruction calls the transport (spec/41_command_encoder.md
R86) and how it may end (spec/60_exceptions.md R156). -/

namespace Sys2Proof.Machine

/-- R25: in SingleShot REP holds a value, in Periodic REP and RATE do. -/
def modeRegistersHeld (s : State) : Bool :=
  match s.mode with
  | .idle => true
  | .singleShot => s.rep.isSome
  | .periodic => s.rep.isSome && s.rate.isSome

/-- The invariant of the registers and of the frame buffer's form. -/
def State.Inv (s : State) : Prop := modeRegistersHeld s = true ∧ s.fb.wf = true

/-- The words of R81 and R82 and, for a periodic table, of R83: the only ones the block sends (R84). -/
def sendableWords (t : PerTable) : List Half :=
  [0xE000, 0x3682, 0x30A2, 0x306D, 0x3066, 0x3093, 0xF32D, 0x2416, 0x240B, 0x2400,
   t.hz05.first ++ t.hz05.second.low, t.hz05.first ++ t.hz05.second.medium, t.hz05.first ++ t.hz05.second.high,
   t.hz1.first ++ t.hz1.second.low, t.hz1.first ++ t.hz1.second.medium, t.hz1.first ++ t.hz1.second.high,
   t.hz2.first ++ t.hz2.second.low, t.hz2.first ++ t.hz2.second.medium, t.hz2.first ++ t.hz2.second.high,
   t.hz4.first ++ t.hz4.second.low, t.hz4.first ++ t.hz4.second.medium, t.hz4.first ++ t.hz4.second.high,
   t.hz10.first ++ t.hz10.second.low, t.hz10.first ++ t.hz10.second.medium, t.hz10.first ++ t.hz10.second.high]

/-- An event the block may make: a write of one sendable word, high byte first, to DEV_ADDR (R31, R35, R84), a read of
3 or 6 bytes from DEV_ADDR, register 0 (R32, R37), a sleep of 500 (R33), or a failure. -/
def Event.Legal (p : Params) : Event → Prop
  | .write addr bytes =>
    addr = p.devAddr ∧ ∃ w ∈ sendableWords p.perCmd, bytes = [w.extractLsb' 8 8, w.extractLsb' 0 8]
  | .read addr reg n bytes => addr = p.devAddr ∧ reg = 0 ∧ (n = 3 ∨ n = 6) ∧ bytes.length = n
  | .sleep us => us = 500
  | .failed _ => True

/-- Every event of the history is one the block may make. -/
def State.HistoryLegal (s : State) : Prop := ∀ e ∈ s.events, e.Legal s.params

/-- MODE, REP and RATE are unchanged. -/
def SameMode (s t : State) : Prop := t.mode = s.mode ∧ t.rep = s.rep ∧ t.rate = s.rate

/-- What no step writes is unchanged: CHECK_EN, DEV_ADDR and PER_CMD (R14, R24). -/
def SameSettings (s t : State) : Prop := t.checkEn = s.checkEn ∧ t.params = s.params

/-- The working registers are unchanged: ACC, every byte of FB, FLEN. -/
def SameWorking (s t : State) : Prop :=
  t.acc = s.acc ∧ (∀ i : Fin 6, t.fb.read i = s.fb.read i) ∧ t.flen = s.flen

/-- No transport call and no delay: the history and the transport's answers are unchanged. -/
def NoTransport (s t : State) : Prop := t.events = s.events ∧ t.answers = s.answers

/-- The frame an operation has read has two good sub-frames (R140, R141). -/
def FrameGood (b : Bytes6) : Prop := b.b2 = crc8 [b.b0, b.b1] 0xFF 0x31 ∧ b.b5 = crc8 [b.b3, b.b4] 0xFF 0x31

/-- The instruction is one of the twelve operations, not a command word on its own (R53). -/
def isOperation (i : Instr) : Bool :=
  match encode i with
  | .request _ _ => true
  | .command _ => false

/-- The instruction makes a transport call in this state (R86; a command word is one call, R80). -/
def makesCall (i : Instr) (s : State) : Bool :=
  match i with
  | .crc8 _ _ _ => false
  | .validate _ => false
  | .getCycle _ => false
  | .startSs rep => decide (rep ≤ 2)
  | .startPer rep rate => decide (rep ≤ 2) && decide (rate ≤ 4)
  | .iterNext => decide (s.mode = .periodic)
  | _ => true

/-- The kind of the first transport call of an instruction that makes one: READ_MEAS outside Periodic begins with its
read, every other with a write (R86). -/
def firstCall (i : Instr) (s : State) : Call :=
  if i = .readMeas ∧ s.mode ≠ .periodic then .read else .write

/-- The ways an operation may end (R156). -/
def mayEndAs (i : Instr) (s : State) : Status → Bool
  | .ok => true
  | .invalidArgument =>
    match i with
    | .validate _ => true
    | .startSs _ => true
    | .startPer _ _ => true
    | _ => false
  | .dataCorruption =>
    match i with
    | .validate _ => true
    | .readMeas => s.checkEn
    | .iterNext => s.checkEn
    | .getId => s.checkEn
    | .getStatus => s.checkEn
    | _ => false
  | .transportFailure =>
    match i with
    | .crc8 _ _ _ => false
    | .validate _ => false
    | .getCycle _ => false
    | _ => true
  | .unsupportedOperation =>
    match i with
    | .getCycle _ => decide (s.mode = .idle)
    | .iterNext => decide (s.mode ≠ .periodic)
    | _ => false
  | .illegalRequest => false

/-- The bits of a request word that its operation looks at (R51, R53, R56). -/
def usedMask (op : BitVec 4) : ReqWord :=
  match op.toNat with
  | 0x1 => 0xFFFFFF00
  | 0x3 => 0xFF00000F
  | 0x4 => 0xFF0000FF
  | 0x5 => 0xFF000001
  | 0xB => 0xFF000001
  | _ => 0xFF000000

end Sys2Proof.Machine
end

