-- ==== Sys2Proof/Certificates/Slice0/Obligations.lean ====
section
/-! DEFINITION. The statements for the provers, from the numbered rules of spec/. The terms they use stand in
Sys2Proof/Safety.lean. -/

open Sys2Proof Sys2Proof.Machine

/-! ### Encodings -/

/-- Tier 3. Every well-formed instruction's encoding decodes to it, whatever its operands and its payload (R51 to R53,
R64, and the opcode table's WIRE16 rows; that a command word is decoded at all is the model's own port, log 11, and
the periodic ones are those of the default PER_CMD, log 7). -/
def Obligations.EncodeThenDecodeIsIdentity : Prop :=
  ∀ i : Instr, i.WellFormed = true → decode (encode i) = .ok i

/-- R52, R53: the operation and its operands for every request word of each match value. -/
def Obligations.RequestWordSelectsOperationAndOperands : Prop :=
  ∀ (w : ReqWord) (din : List Byte),
    (w &&& 0xFF000000 = 0x10000000 →
      decode (.request w din) =
        .ok (.crc8 (BitVec.ofNat 8 (w.toNat / 65536)) (BitVec.ofNat 8 (w.toNat / 256)) din)) ∧
    (w &&& 0xFF000000 = 0x20000000 → decode (.request w din) = .ok (.validate din)) ∧
    (w &&& 0xFF000000 = 0x30000000 → decode (.request w din) = .ok (.startSs (w.toNat % 16))) ∧
    (w &&& 0xFF000000 = 0x40000000 →
      decode (.request w din) = .ok (.startPer (w.toNat % 16) (w.toNat / 16 % 16))) ∧
    (w &&& 0xFF000000 = 0x50000000 → decode (.request w din) = .ok (.getCycle (decide (w.toNat % 2 = 1)))) ∧
    (w &&& 0xFF000000 = 0x60000000 → decode (.request w din) = .ok .readMeas) ∧
    (w &&& 0xFF000000 = 0x70000000 → decode (.request w din) = .ok .iterNext) ∧
    (w &&& 0xFF000000 = 0x80000000 → decode (.request w din) = .ok .getId) ∧
    (w &&& 0xFF000000 = 0x90000000 → decode (.request w din) = .ok .getStatus) ∧
    (w &&& 0xFF000000 = 0xA0000000 → decode (.request w din) = .ok .softReset) ∧
    (w &&& 0xFF000000 = 0xB0000000 → decode (.request w din) = .ok (.setHeater (decide (w.toNat % 2 = 1)))) ∧
    (w &&& 0xFF000000 = 0xC0000000 → decode (.request w din) = .ok .sendBreak)

/-- Tier 1, derived. Example words of R64, the request word of R102 and words of the opcode table, as the decoder
reads them. The 16-bit lines rest on the model's own command port (log 11: the block itself never decodes a command
word, R59), and the line of 0x2721 assumes the default PER_CMD (R83, log 7). -/
def Obligations.ExampleWordsDecode : Prop :=
  decodeTableWord 32 0x10FF3100 = some (.crc8 0xFF 0x31 []) ∧
  decodeTableWord 32 0x20000000 = some (.validate []) ∧
  decodeTableWord 32 0x30000002 = some (.startSs 2) ∧
  decodeTableWord 32 0x30FFFFF2 = some (.startSs 2) ∧
  decodeTableWord 32 0x400000F2 = some (.startPer 2 15) ∧
  decodeTableWord 32 0x40000011 = some (.startPer 1 1) ∧
  decodeTableWord 32 0x50000001 = some (.getCycle true) ∧
  decodeTableWord 32 0xB000000F = some (.setHeater true) ∧
  decodeTableWord 32 0x31000002 = none ∧
  decodeTableWord 32 0xD0000000 = none ∧
  decodeTableWord 16 0x2416 = some .cmdSsLow ∧
  decodeTableWord 16 0xF32D = some .cmdReadStatus ∧
  decodeTableWord 16 0x2721 = some .cmdPerHz10Medium ∧
  decodeTableWord 16 0x0000 = none

/-- R54: a request word selects no operation exactly when RSV is not 0 or OP is 0x0, 0xD, 0xE or 0xF. -/
def Obligations.ReservedRequestWordsAreExactlyTheUndecodable : Prop :=
  ∀ (w : ReqWord) (din : List Byte),
    (∃ e, decode (.request w din) = .error e) ↔
      (w.toNat / 2 ^ 24 % 16 ≠ 0 ∨ w.toNat / 2 ^ 28 ∈ [0x0, 0xD, 0xE, 0xF])

/-- R54: the block answers a reserved request with IllegalRequest, changes no register, makes no transport call. -/
def Obligations.ReservedRequestAnsweredIllegalNothingElse : Prop :=
  ∀ (s : State) (w : ReqWord) (din : List Byte) (rest : List Input),
    s.seq = .idle → s.inbox = .request w din :: rest →
    (w.toNat / 2 ^ 24 % 16 ≠ 0 ∨ w.toNat / 2 ^ 28 ∈ [0x0, 0xD, 0xE, 0xF]) →
    ∃ t, step s = .next t ∧ t.rsp.status = .illegalRequest ∧ SameMode s t ∧ SameSettings s t ∧ SameWorking s t ∧
      NoTransport s t ∧ t.inbox = rest ∧ t.seq = .idle

/-- R56, R55: two requests that differ only in fields their operation ignores are the same instruction, and so are
two that differ in the payload of an operation other than CRC8 and VALIDATE. -/
def Obligations.IgnoredRequestFieldsDoNotMatter : Prop :=
  ∀ (w w' : ReqWord) (din din' : List Byte),
    w &&& usedMask (w.extractLsb' 28 4) = w' &&& usedMask (w.extractLsb' 28 4) →
    (w.toNat / 2 ^ 28 = 1 ∨ w.toNat / 2 ^ 28 = 2 → din = din') →
    decode (.request w din) = decode (.request w' din')

/-- Tier 1. R84: the ten fixed and single-shot words are pairwise distinct, and so are all twenty-five with the
default PER_CMD (log 7). -/
def Obligations.CommandWordsArePairwiseDistinct : Prop :=
  (sendableWords perCmdDefault).Nodup ∧ (sendableWords perCmdDefault).length = 25

/-! ### The step -/

/-- Tier 1. When the next input decodes, a step of the waiting block is exec of that instruction, the input being
taken from the inbox (log 8; for a command word, the model's own port, log 11). -/
def Obligations.StepRunsTheDecodedInstruction : Prop :=
  ∀ (s : State) (input : Input) (rest : List Input) (i : Instr),
    s.seq = .idle → s.inbox = input :: rest → decode input = .ok i → step s = exec i { s with inbox := rest }

/-- Tier 1, derived. A word of the opcode table placed by withFetchWord is run by the very next step. How a request
comes to the block is log 8; that a 16-bit word is an input at all is the model's own port, log 11. -/
def Obligations.PlacedWordRunsNext : Prop :=
  ∀ (s : State) (nbits w : Nat) (i : Instr),
    decodeTableWord nbits w = some i → step (s.withFetchWord nbits w) = exec i { s with seq := .idle }

/-- Tier 1. With no request pending the block waits (R17). -/
def Obligations.StepWaitsForARequest : Prop :=
  ∀ s : State, s.seq = .idle → s.inbox = [] → step s = .next s

/-- Tier 1. Inside an operation that never ends the block accepts no request: it has no step (R187; the stuck state is
log 5). -/
def Obligations.BlockedBlockHasNoStep : Prop :=
  ∀ s : State, s.seq = .blocked → step s = .fault .transportNeverReturned

/-- One request is accepted a step, in order (R50; the inbox is log 8): a step takes the first input and leaves the
others. -/
def Obligations.StepTakesOneRequest : Prop :=
  ∀ s t : State, step s = .next t → t.inbox = s.inbox.tail

/-! ### Reset -/

/-- Tier 1. R175: what hardware reset leaves, for every value of the parameters; the block then waits for its first
request. The values of ACC, FB, FLEN and RSP, which the spec leaves unspecified (log 3), are not stated. -/
def Obligations.ResetLeavesIdleWithNoSelectors : Prop :=
  (∀ (c : Bool) (p : Params),
    (State.resetWith c p).mode = .idle ∧ (State.resetWith c p).rep = none ∧ (State.resetWith c p).rate = none ∧
    (State.resetWith c p).checkEn = c ∧ (State.resetWith c p).params = p ∧ (State.resetWith c p).seq = .idle ∧
    (State.resetWith c p).events = [] ∧ step (State.resetWith c p) = .next (State.resetWith c p)) ∧
  State.reset = State.resetWith Config.checkEn Config.params

/-- Tier 1. The invariants hold after reset, for every value of the parameters. The frame buffer's canonical form is
the model's own (log 4). -/
def Obligations.InvariantsHoldAfterReset : Prop :=
  ∀ (c : Bool) (p : Params), (State.resetWith c p).Inv ∧ (State.resetWith c p).HistoryLegal

/-! ### Invariants of every step -/

/-- Tier 3. R25, and the frame buffer's form, which is the model's own (log 4): from any state where REP and RATE hold
the values their mode needs and the frame buffer is canonical, a step leads to such a state. -/
def Obligations.StepKeepsSelectorsAndFrameBufferForm : Prop :=
  ∀ s t : State, s.Inv → step s = .next t → t.Inv

/-- Tier 3. R31 to R33, R37, R84: every step keeps a history of legal events only: writes of one known command word to
DEV_ADDR, reads of 3 or 6 bytes from register 0, sleeps of 500. -/
def Obligations.StepKeepsHistoryLegal : Prop :=
  ∀ s t : State, s.HistoryLegal → step s = .next t → t.HistoryLegal

/-- Tier 3. R14, R24, R41: a step only adds events at the end of the history, at most three, and never writes
CHECK_EN, DEV_ADDR or PER_CMD. -/
def Obligations.StepExtendsHistoryAndKeepsSettings : Prop :=
  ∀ s t : State, step s = .next t →
    (∃ new : List Event, t.events = s.events ++ new ∧ new.length ≤ 3) ∧ SameSettings s t

/-- Tier 2, derived. After any number of steps from reset, with any requests and answers: CHECK_EN and the parameters
equal their reset values and the selectors are held as the mode needs (R25); the frame buffer is in the model's
canonical form (log 4); the history is legal (R31 to R33, R35, R37, R84). -/
def Obligations.RunFromResetKeepsParameters : Prop :=
  ∀ (n : Nat) (c : Bool) (p : Params) (requests : List Input) (script : List Answer) (t : State),
    core.run n { State.resetWith c p with inbox := requests, answers := script } = .next t →
    t.checkEn = c ∧ t.params = p ∧ t.Inv ∧ t.HistoryLegal

/-! ### Who writes the mode registers, and how operations end -/

/-- Derived. R128 for the readouts, R11, R14 and R107 for the rest: every instruction but START_SS, START_PER,
SOFT_RESET and BREAK leaves MODE, REP and RATE; none writes CHECK_EN. That every instruction answers a next state
rests on log 5 where a transport call never returns, and for the command words on log 11. -/
def Obligations.OnlyModeSettersWriteTheModeRegisters : Prop :=
  ∀ (i : Instr) (s : State),
    ∃ t, exec i s = .next t ∧ SameSettings s t ∧
      ((∀ rep, i ≠ .startSs rep) → (∀ rep rate, i ≠ .startPer rep rate) → i ≠ .softReset → i ≠ .sendBreak →
        SameMode s t)

/-- R100, R157: an operation that ends with any error leaves MODE, REP and RATE, and so does one that never ends (log
5). -/
def Obligations.ErrorLeavesTheModeRegisters : Prop :=
  ∀ (i : Instr) (s t : State), exec i s = .next t → (t.rsp.status ≠ .ok ∨ t.seq = .blocked) →
    isOperation i = true → SameMode s t

/-- Tier 2. R156: an operation that ends does so in one of the ways the matrix gives it. -/
def Obligations.OperationsEndAsTheMatrixAllows : Prop :=
  ∀ (i : Instr) (s t : State), isOperation i = true → exec i s = .next t → t.seq = .idle →
    mayEndAs i s t.rsp.status = true

/-- Tier 2. R84, R14: CHECK_EN never shows on the bus nor in the mode registers: two runs of an instruction that
differ only in CHECK_EN make the same events, use the same answers and leave the same MODE, REP and RATE (for the
command words, log 11; for a call that never returns, log 5). -/
def Obligations.CheckEnableNeverShowsOnTheBus : Prop :=
  ∀ (i : Instr) (s t t' : State) (c : Bool), exec i s = .next t → exec i { s with checkEn := c } = .next t' →
    t'.events = t.events ∧ t'.answers = t.answers ∧ SameMode t t'

/-- R86: an instruction for which no transport call is listed makes none, and answers. -/
def Obligations.NoTransportCallWhereNoneIsListed : Prop :=
  ∀ (i : Instr) (s : State), makesCall i s = false →
    ∃ t, exec i s = .next t ∧ t.seq = .idle ∧ NoTransport s t ∧ SameMode s t ∧ SameSettings s t ∧
      t.inbox = s.inbox

/-- Derived. R153: a failed transport call ends the instruction with TransportFailure, INFO[7:0] naming the call; the
failure is the last event, no later call is made, and no register but RSP is written. The first call of any
instruction that makes one, and the read of a readout whose command was sent. That a command word run on its own ends
so is the model's choice (log 11). -/
def Obligations.FailedTransportCallEndsTheInstruction : Prop :=
  (∀ (i : Instr) (s : State), makesCall i s = true → s.nextAnswer = .failed →
    ∃ t, exec i s = .next t ∧ t.rsp.status = .transportFailure ∧
      t.rsp.info.toNat % 256 = (if firstCall i s = .write then 1 else 2) ∧
      t.events = s.events ++ [.failed (firstCall i s)] ∧ t.answers = s.answers.tail ∧
      SameMode s t ∧ SameSettings s t ∧ SameWorking s t ∧ t.inbox = s.inbox ∧ t.seq = .idle) ∧
  ∀ (s : State) (a : Bytes6) (i : Instr) (before : List Event),
    s.nextAnswer = .returned a → s.dropAnswer.nextAnswer = .failed →
    (i = .getId ∧ before = [.write s.params.devAddr [0x36, 0x82], .sleep 500] ∨
      i = .getStatus ∧ before = [.write s.params.devAddr [0xF3, 0x2D], .sleep 500] ∨
      (i = .readMeas ∨ i = .iterNext) ∧ s.mode = .periodic ∧ before = [.write s.params.devAddr [0xE0, 0x00]]) →
    ∃ t, exec i s = .next t ∧ t.rsp.status = .transportFailure ∧ t.rsp.info.toNat % 256 = 2 ∧
      t.events = s.events ++ before ++ [.failed .read] ∧ t.answers = s.answers.tail.tail ∧
      SameMode s t ∧ SameSettings s t ∧ SameWorking s t ∧ t.inbox = s.inbox ∧ t.seq = .idle

/-- Derived. R187: an instruction one of whose transport calls never returns does not end (log 5: a next state in
which the sequencer is blocked, the events of the earlier calls in the history): its first call (for a command word on
its own, log 11), or the read of a readout whose command was sent. -/
def Obligations.UnansweredCallBlocks : Prop :=
  (∀ (i : Instr) (s : State), makesCall i s = true → s.nextAnswer = .never →
    ∃ t, exec i s = .next t ∧ t.seq = .blocked ∧ t.events = s.events ∧ t.answers = s.answers.tail ∧
      SameMode s t ∧ SameSettings s t ∧ SameWorking s t ∧ t.inbox = s.inbox) ∧
  ∀ (s : State) (a : Bytes6) (i : Instr) (before : List Event),
    s.nextAnswer = .returned a → s.dropAnswer.nextAnswer = .never →
    (i = .getId ∧ before = [.write s.params.devAddr [0x36, 0x82], .sleep 500] ∨
      i = .getStatus ∧ before = [.write s.params.devAddr [0xF3, 0x2D], .sleep 500] ∨
      (i = .readMeas ∨ i = .iterNext) ∧ s.mode = .periodic ∧ before = [.write s.params.devAddr [0xE0, 0x00]]) →
    ∃ t, exec i s = .next t ∧ t.seq = .blocked ∧ t.events = s.events ++ before ∧ t.answers = s.answers.tail.tail ∧
      SameMode s t ∧ SameSettings s t ∧ SameWorking s t ∧ t.inbox = s.inbox

/-- Derived (log 12, DEDUCED from the vectors of 95_test_vectors.md): INFO of InvalidArgument, TransportFailure and
UnsupportedOperation is 0 above its low byte. -/
def Obligations.InfoIsZeroAboveItsLowByte : Prop :=
  ∀ (i : Instr) (s t : State), isOperation i = true → exec i s = .next t → t.seq = .idle →
    (t.rsp.status = .invalidArgument ∨ t.rsp.status = .transportFailure ∨ t.rsp.status = .unsupportedOperation) →
    t.rsp.info.toNat < 256

/-- Tier 1. R57, R11 to R13: the codes of STATUS, MODE, REP and RATE. -/
def Obligations.RegisterAndStatusCodes : Prop :=
  (statusCode .ok = 0 ∧ statusCode .invalidArgument = 1 ∧ statusCode .dataCorruption = 2 ∧
    statusCode .transportFailure = 3 ∧ statusCode .unsupportedOperation = 4 ∧ statusCode .illegalRequest = 5) ∧
  (modeCode .idle = 0 ∧ modeCode .singleShot = 1 ∧ modeCode .periodic = 2) ∧
  (repCode .low = 0 ∧ repCode .medium = 1 ∧ repCode .high = 2) ∧
  (rateCode .hz05 = 0 ∧ rateCode .hz1 = 1 ∧ rateCode .hz2 = 2 ∧ rateCode .hz4 = 3 ∧ rateCode .hz10 = 4)

/-! ### The command encoder -/

/-- R80 to R82: each fixed and single-shot command word, run on its own (log 11), is sent as its two bytes, high byte
first, in one write, and nothing else changes. -/
def Obligations.FixedCommandWordIsSentByteExact : Prop :=
  ∀ (s : State) (b : Bytes6) (i : Instr) (b0 b1 : Byte),
    s.nextAnswer = .returned b →
    (i, b0, b1) ∈ [(Instr.cmdFetch, (0xE0 : Byte), (0x00 : Byte)), (.cmdReadId, 0x36, 0x82),
      (.cmdReadStatus, 0xF3, 0x2D), (.cmdSoftReset, 0x30, 0xA2), (.cmdHeaterOn, 0x30, 0x6D),
      (.cmdHeaterOff, 0x30, 0x66), (.cmdBreak, 0x30, 0x93), (.cmdSsLow, 0x24, 0x16), (.cmdSsMedium, 0x24, 0x0B),
      (.cmdSsHigh, 0x24, 0x00)] →
    ∃ t, exec i s = .next t ∧ t.events = s.events ++ [.write s.params.devAddr [b0, b1]] ∧
      t.answers = s.answers.tail ∧ SameMode s t ∧ SameSettings s t ∧ SameWorking s t ∧ t.rsp = s.rsp ∧
      t.inbox = s.inbox ∧ t.seq = s.seq

/-- R80, R83: each periodic command word, run on its own (log 11), is sent as the two bytes of its entry of PER_CMD,
whatever the table. -/
def Obligations.PeriodicCommandWordIsSentFromTheTable : Prop :=
  ∀ (s : State) (b : Bytes6) (i : Instr) (b0 b1 : Byte),
    s.nextAnswer = .returned b →
    (i, b0, b1) ∈
      [(Instr.cmdPerHz05Low, s.params.perCmd.hz05.first, s.params.perCmd.hz05.second.low),
        (.cmdPerHz05Medium, s.params.perCmd.hz05.first, s.params.perCmd.hz05.second.medium),
        (.cmdPerHz05High, s.params.perCmd.hz05.first, s.params.perCmd.hz05.second.high),
        (.cmdPerHz1Low, s.params.perCmd.hz1.first, s.params.perCmd.hz1.second.low),
        (.cmdPerHz1Medium, s.params.perCmd.hz1.first, s.params.perCmd.hz1.second.medium),
        (.cmdPerHz1High, s.params.perCmd.hz1.first, s.params.perCmd.hz1.second.high),
        (.cmdPerHz2Low, s.params.perCmd.hz2.first, s.params.perCmd.hz2.second.low),
        (.cmdPerHz2Medium, s.params.perCmd.hz2.first, s.params.perCmd.hz2.second.medium),
        (.cmdPerHz2High, s.params.perCmd.hz2.first, s.params.perCmd.hz2.second.high),
        (.cmdPerHz4Low, s.params.perCmd.hz4.first, s.params.perCmd.hz4.second.low),
        (.cmdPerHz4Medium, s.params.perCmd.hz4.first, s.params.perCmd.hz4.second.medium),
        (.cmdPerHz4High, s.params.perCmd.hz4.first, s.params.perCmd.hz4.second.high),
        (.cmdPerHz10Low, s.params.perCmd.hz10.first, s.params.perCmd.hz10.second.low),
        (.cmdPerHz10Medium, s.params.perCmd.hz10.first, s.params.perCmd.hz10.second.medium),
        (.cmdPerHz10High, s.params.perCmd.hz10.first, s.params.perCmd.hz10.second.high)] →
    ∃ t, exec i s = .next t ∧ t.events = s.events ++ [.write s.params.devAddr [b0, b1]] ∧
      t.answers = s.answers.tail ∧ SameMode s t ∧ SameSettings s t ∧ SameWorking s t ∧ t.rsp = s.rsp ∧
      t.inbox = s.inbox ∧ t.seq = s.seq

/-- Under the DEFAULT PER_CMD of R83, from general knowledge and not from the source (log 7), each command word, run
on its own (log 11), sends exactly the word that encodes it. -/
def Obligations.CommandRowSendsItsOwnWordUnderTheDefaultTable : Prop :=
  ∀ (s : State) (b : Bytes6) (i : Instr) (w : Half),
    s.params.perCmd = perCmdDefault → encode i = .command w → s.nextAnswer = .returned b →
    ∃ t, exec i s = .next t ∧
      t.events = s.events ++ [.write s.params.devAddr [BitVec.ofNat 8 (w.toNat / 256), BitVec.ofNat 8 w.toNat]]

/-- R85: SET_HEATER, from its encoding to its end. -/
def Obligations.SetHeaterSendsOneCommand : Prop :=
  (∀ (w : ReqWord) (din : List Byte), w &&& 0xFF000000 = 0xB0000000 →
    decode (.request w din) = .ok (.setHeater (decide (w.toNat % 2 = 1)))) ∧
  ∀ (s : State) (on : Bool),
    (∀ b, s.nextAnswer = .returned b →
      ∃ t, exec (.setHeater on) s = .next t ∧ t.rsp.status = .ok ∧
        t.events = s.events ++ [.write s.params.devAddr [0x30, if on then 0x6D else 0x66]] ∧
        t.answers = s.answers.tail ∧ SameMode s t ∧ SameSettings s t ∧ SameWorking s t ∧ t.inbox = s.inbox ∧
        t.seq = .idle) ∧
    (s.nextAnswer = .failed →
      ∃ t, exec (.setHeater on) s = .next t ∧ t.rsp.status = .transportFailure ∧ t.rsp.info.toNat % 256 = 1 ∧
        t.events = s.events ++ [.failed .write] ∧ SameMode s t ∧ SameSettings s t ∧ SameWorking s t)

/-! ### The acquisition mode -/

/-- R101: START_SS, from its encoding to its end. -/
def Obligations.StartSingleShotMeaning : Prop :=
  (∀ (w : ReqWord) (din : List Byte), w &&& 0xFF000000 = 0x30000000 →
    decode (.request w din) = .ok (.startSs (w.toNat % 16))) ∧
  ∀ (s : State) (rep : Nat),
    (2 < rep →
      ∃ t, exec (.startSs rep) s = .next t ∧ t.rsp.status = .invalidArgument ∧ t.rsp.info.toNat % 256 = 1 ∧
        NoTransport s t ∧ SameMode s t ∧ SameSettings s t ∧ SameWorking s t ∧ t.inbox = s.inbox ∧ t.seq = .idle) ∧
    (∀ (r : Rep) (lo : Byte), (rep, r, lo) ∈ [(0, Rep.low, (0x16 : Byte)), (1, .medium, 0x0B), (2, .high, 0x00)] →
      (∀ b, s.nextAnswer = .returned b →
        ∃ t, exec (.startSs rep) s = .next t ∧ t.rsp.status = .ok ∧ t.mode = .singleShot ∧ t.rep = some r ∧
          t.rate = s.rate ∧ t.events = s.events ++ [.write s.params.devAddr [0x24, lo]] ∧
          t.answers = s.answers.tail ∧ SameSettings s t ∧ SameWorking s t ∧ t.inbox = s.inbox ∧ t.seq = .idle) ∧
      (s.nextAnswer = .failed →
        ∃ t, exec (.startSs rep) s = .next t ∧ t.rsp.status = .transportFailure ∧ t.rsp.info.toNat % 256 = 1 ∧
          t.events = s.events ++ [.failed .write] ∧ SameMode s t ∧ SameSettings s t ∧ SameWorking s t))

/-- R102: START_PER, from its encoding to its end, whatever the table PER_CMD. -/
def Obligations.StartPeriodicMeaning : Prop :=
  (∀ (w : ReqWord) (din : List Byte), w &&& 0xFF000000 = 0x40000000 →
    decode (.request w din) = .ok (.startPer (w.toNat % 16) (w.toNat / 16 % 16))) ∧
  ∀ (s : State) (rep rate : Nat),
    (2 < rep →
      ∃ t, exec (.startPer rep rate) s = .next t ∧ t.rsp.status = .invalidArgument ∧ t.rsp.info.toNat % 256 = 1 ∧
        NoTransport s t ∧ SameMode s t ∧ SameSettings s t ∧ SameWorking s t ∧ t.inbox = s.inbox ∧ t.seq = .idle) ∧
    (rep ≤ 2 → 4 < rate →
      ∃ t, exec (.startPer rep rate) s = .next t ∧ t.rsp.status = .invalidArgument ∧ t.rsp.info.toNat % 256 = 2 ∧
        NoTransport s t ∧ SameMode s t ∧ SameSettings s t ∧ SameWorking s t ∧ t.inbox = s.inbox ∧ t.seq = .idle) ∧
    (∀ (r : Rep) (second : RepBytes → Byte) (q : Rate) (row : PerRow),
      (rep, r, second) ∈ [(0, Rep.low, RepBytes.low), (1, .medium, RepBytes.medium), (2, .high, RepBytes.high)] →
      (rate, q, row) ∈ [(0, Rate.hz05, s.params.perCmd.hz05), (1, .hz1, s.params.perCmd.hz1),
        (2, .hz2, s.params.perCmd.hz2), (3, .hz4, s.params.perCmd.hz4), (4, .hz10, s.params.perCmd.hz10)] →
      (∀ b, s.nextAnswer = .returned b →
        ∃ t, exec (.startPer rep rate) s = .next t ∧ t.rsp.status = .ok ∧ t.mode = .periodic ∧ t.rep = some r ∧
          t.rate = some q ∧ t.events = s.events ++ [.write s.params.devAddr [row.first, second row.second]] ∧
          t.answers = s.answers.tail ∧ SameSettings s t ∧ SameWorking s t ∧ t.inbox = s.inbox ∧ t.seq = .idle) ∧
      (s.nextAnswer = .failed →
        ∃ t, exec (.startPer rep rate) s = .next t ∧ t.rsp.status = .transportFailure ∧
          t.rsp.info.toNat % 256 = 1 ∧ t.events = s.events ++ [.failed .write] ∧ SameMode s t ∧
          SameSettings s t ∧ SameWorking s t))

/-- The bytes START_PER sends under the DEFAULT PER_CMD of R83, from general knowledge and not from the source
(log 7). -/
def Obligations.StartPeriodicBytesUnderTheDefaultTable : Prop :=
  ∀ (s : State) (b : Bytes6) (rep rate : Nat) (b0 b1 : Byte),
    s.params.perCmd = perCmdDefault → s.nextAnswer = .returned b →
    (rate, rep, b0, b1) ∈ [(0, 0, (0x20 : Byte), (0x2F : Byte)), (0, 1, 0x20, 0x24), (0, 2, 0x20, 0x32),
      (1, 0, 0x21, 0x2D), (1, 1, 0x21, 0x26), (1, 2, 0x21, 0x30), (2, 0, 0x22, 0x2B), (2, 1, 0x22, 0x20),
      (2, 2, 0x22, 0x36), (3, 0, 0x23, 0x29), (3, 1, 0x23, 0x22), (3, 2, 0x23, 0x34), (4, 0, 0x27, 0x2A),
      (4, 1, 0x27, 0x21), (4, 2, 0x27, 0x37)] →
    ∃ t, exec (.startPer rep rate) s = .next t ∧ t.events = s.events ++ [.write s.params.devAddr [b0, b1]]

/-- Derived. R104: GET_CYCLE, from its encoding to its end, in every state. That it ends OK with a free number where
the selector register it reads holds no value is the model's choice (log 1): no run reaches such a state (R25, U4). -/
def Obligations.GetCycleMeaning : Prop :=
  (∀ (w : ReqWord) (din : List Byte), w &&& 0xFF000000 = 0x50000000 →
    decode (.request w din) = .ok (.getCycle (decide (w.toNat % 2 = 1)))) ∧
  ∀ (s : State) (preferMin : Bool),
    ∃ t, exec (.getCycle preferMin) s = .next t ∧ NoTransport s t ∧ SameMode s t ∧ SameSettings s t ∧
      SameWorking s t ∧ t.inbox = s.inbox ∧ t.seq = .idle ∧
      (s.mode = .idle → t.rsp.status = .unsupportedOperation ∧ t.rsp.info.toNat % 256 = 0) ∧
      (s.mode ≠ .idle → t.rsp.status = .ok ∧ t.rsp.r0.toNat < 2 ^ 32) ∧
      (s.mode = .singleShot → ∀ (r : Rep) (lo hi : Nat), s.rep = some r →
        (r, lo, hi) ∈ [(Rep.low, 2500, 4500), (.medium, 4500, 6500), (.high, 12500, 15500)] →
        t.rsp.r0.toNat = if preferMin then lo else hi) ∧
      (s.mode = .periodic → ∀ (q : Rate) (us : Nat), s.rate = some q →
        (q, us) ∈ [(Rate.hz05, 2000000), (.hz1, 1000000), (.hz2, 500000), (.hz4, 250000), (.hz10, 100000)] →
        t.rsp.r0.toNat = us)

/-- Derived. SOFT_RESET and BREAK send their command and write MODE <- Idle, REP and RATE being kept; a failed write
leaves MODE. The spec prescribes MODE <- Idle (R105, R106), but its source calls it 'an inferred correction, not an
observed contract' (90_conflicts.md C2, D8; log 17). -/
def Obligations.SoftResetAndBreakReturnToIdle : Prop :=
  ∀ (s : State) (i : Instr) (op : ReqWord) (lo : Byte),
    (i, op, lo) ∈ [(Instr.softReset, (0xA0000000 : ReqWord), (0xA2 : Byte)), (.sendBreak, 0xC0000000, 0x93)] →
    (∀ (w : ReqWord) (din : List Byte), w &&& 0xFF000000 = op → decode (.request w din) = .ok i) ∧
    (∀ b, s.nextAnswer = .returned b →
      ∃ t, exec i s = .next t ∧ t.rsp.status = .ok ∧ t.mode = .idle ∧ t.rep = s.rep ∧ t.rate = s.rate ∧
        t.events = s.events ++ [.write s.params.devAddr [0x30, lo]] ∧ t.answers = s.answers.tail ∧
        SameSettings s t ∧ SameWorking s t ∧ t.inbox = s.inbox ∧ t.seq = .idle) ∧
    (s.nextAnswer = .failed →
      ∃ t, exec i s = .next t ∧ t.rsp.status = .transportFailure ∧ t.rsp.info.toNat % 256 = 1 ∧
        t.events = s.events ++ [.failed .write] ∧ SameMode s t ∧ SameSettings s t ∧ SameWorking s t)

/-! ### The checksum engine -/

/-- R70: the bit step, on numbers: the shift is without loss and the low 8 bits are kept. -/
def Obligations.ChecksumBitStepRule : Prop :=
  ∀ acc poly : Byte,
    crc8Bit acc poly =
      if acc.getLsbD 7 then BitVec.ofNat 8 ((acc.toNat * 2) ^^^ poly.toNat) else BitVec.ofNat 8 (acc.toNat * 2)

/-- R71, R72: an integer enters modulo 256, the byte step is eight bit steps after an exclusive or with it, and the
checksum is the left fold of the byte step from the seed. -/
def Obligations.ChecksumIsTheLeftFoldOfTheByteStep : Prop :=
  (∀ (acc poly : Byte) (v : Nat),
    crc8Byte acc (trunc8 v) poly =
      crc8Bit (crc8Bit (crc8Bit (crc8Bit (crc8Bit (crc8Bit (crc8Bit (crc8Bit (acc ^^^ BitVec.ofNat 8 (v % 256)) poly)
        poly) poly) poly) poly) poly) poly) poly) ∧
  ∀ (seq : List Byte) (seed poly : Byte), crc8 seq seed poly = seq.foldl (fun acc b => crc8Byte acc b poly) seed

/-- R73: CRC8, from its encoding to its end: OK with the checksum in R0[7:0] and zeros above; nothing but ACC and RSP
is touched. -/
def Obligations.Crc8Meaning : Prop :=
  (∀ (w : ReqWord) (din : List Byte), w &&& 0xFF000000 = 0x10000000 →
    decode (.request w din) =
      .ok (.crc8 (BitVec.ofNat 8 (w.toNat / 65536)) (BitVec.ofNat 8 (w.toNat / 256)) din)) ∧
  ∀ (s : State) (seed poly : Byte) (din : List Byte),
    ∃ t, exec (.crc8 seed poly din) s = .next t ∧ t.rsp.status = .ok ∧
      t.rsp.r0.toNat = (crc8 din seed poly).toNat ∧ NoTransport s t ∧ SameMode s t ∧ SameSettings s t ∧
      (∀ i : Fin 6, t.fb.read i = s.fb.read i) ∧ t.flen = s.flen ∧ t.inbox = s.inbox ∧ t.seq = .idle

/-- R75 (g): two CRC8 requests with equal operands give equal results, whatever ran between them. -/
def Obligations.Crc8DependsOnItsOperandsOnly : Prop :=
  ∀ (s s' t t' : State) (seed poly : Byte) (din : List Byte),
    exec (.crc8 seed poly din) s = .next t → exec (.crc8 seed poly din) s' = .next t' →
    t.rsp.status = t'.rsp.status ∧ t.rsp.r0 = t'.rsp.r0

/-- R75 (c): chaining. -/
def Obligations.ChecksumChains : Prop :=
  ∀ (s t : List Byte) (seed poly : Byte), crc8 (s ++ t) seed poly = crc8 t (crc8 s seed poly) poly

/-- R75 (e): with polynomial 0 every non-empty sequence has checksum 0. -/
def Obligations.ChecksumWithPolynomialZeroIsZero : Prop :=
  ∀ (b : Byte) (rest : List Byte) (seed : Byte), crc8 (b :: rest) seed 0 = 0

/-- R75 (d), R71: an element of the payload acts as itself modulo 256. -/
def Obligations.ChecksumTruncatesWiderIntegers : Prop :=
  ∀ (pre post : List Nat) (v : Nat) (seed poly : Byte),
    crc8 (payloadOf (pre ++ (v + 256) :: post)) seed poly = crc8 (payloadOf (pre ++ v :: post)) seed poly

/-- Tier 2. R75 (f): for an odd polynomial, changing exactly one byte of a sequence always changes its checksum. -/
def Obligations.OneChangedByteChangesTheChecksum : Prop :=
  ∀ (pre post : List Byte) (b b' seed poly : Byte), poly.getLsbD 0 = true → b ≠ b' →
    crc8 (pre ++ b :: post) seed poly ≠ crc8 (pre ++ b' :: post) seed poly

/-- Tier 1. The two checksums the source gives (S1, S2). -/
def Obligations.ChecksumReferenceValues : Prop :=
  crc8 [0x01, 0x02, 0x03] 0xFF 0x31 = 0x87 ∧ crc8 [0, 1, 2, 3, 4, 5, 6, 7, 8, 9] 0xFF 0x31 = 0x52

/-! ### The validator -/

/-- R141: lengths other than 3 and 6 are InvalidArgument(3); a 3-byte payload passes exactly when its checksum is
right; a 6-byte payload is checked at offset 0, then at offset 3, the first mismatch being reported with the computed
checksum, the byte received and the offset. Nothing but RSP, ACC, FB and FLEN is written, and of FB only the payload's
bytes. -/
def Obligations.ValidateMeaning : Prop :=
  ∀ (s : State) (din : List Byte),
    ∃ t, exec (.validate din) s = .next t ∧ NoTransport s t ∧ SameMode s t ∧ SameSettings s t ∧
      t.inbox = s.inbox ∧ t.seq = .idle ∧ (∀ i : Fin 6, din.length ≤ i.val → t.fb.read i = s.fb.read i) ∧
      (din.length ≠ 3 → din.length ≠ 6 →
        t.rsp.status = .invalidArgument ∧ t.rsp.info.toNat % 256 = 3 ∧ SameWorking s t) ∧
      (∀ d0 d1 c : Byte, din = [d0, d1, c] →
        if c = crc8 [d0, d1] 0xFF 0x31 then t.rsp.status = .ok
        else t.rsp.status = .dataCorruption ∧ t.rsp.info = 0x00#8 ++ c ++ crc8 [d0, d1] 0xFF 0x31) ∧
      (∀ d0 d1 c e0 e1 c' : Byte, din = [d0, d1, c, e0, e1, c'] →
        if c = crc8 [d0, d1] 0xFF 0x31 then
          if c' = crc8 [e0, e1] 0xFF 0x31 then t.rsp.status = .ok
          else t.rsp.status = .dataCorruption ∧ t.rsp.info = 0x03#8 ++ c' ++ crc8 [e0, e1] 0xFF 0x31
        else t.rsp.status = .dataCorruption ∧ t.rsp.info = 0x00#8 ++ c ++ crc8 [d0, d1] 0xFF 0x31)

/-- R144: (a) exactly one checksum byte is accepted for two data bytes; (b) a 6-byte frame passes exactly when both of
its halves pass; (c) a corrupted byte 2 is DataCorruption, the unmodified frame passes; (d) all-zero and all-ones frames
fail. -/
def Obligations.ValidatorProperties : Prop :=
  (∀ (s : State) (d0 d1 c : Byte),
    ∃ t, exec (.validate [d0, d1, c]) s = .next t ∧
      t.rsp.status = if c = crc8 [d0, d1] 0xFF 0x31 then .ok else .dataCorruption) ∧
  (∀ (s s1 s2 : State) (d0 d1 c e0 e1 c' : Byte),
    ∃ t t1 t2, exec (.validate [d0, d1, c, e0, e1, c']) s = .next t ∧ exec (.validate [d0, d1, c]) s1 = .next t1 ∧
      exec (.validate [e0, e1, c']) s2 = .next t2 ∧
      (t.rsp.status = .ok ↔ t1.rsp.status = .ok ∧ t2.rsp.status = .ok)) ∧
  (∀ (s : State) (d0 d1 c e0 e1 : Byte),
    ∃ t, exec (.validate [d0, d1, c, e0, e1, crc8 [e0, e1] 0xFF 0x31]) s = .next t ∧
      t.rsp.status = if c = crc8 [d0, d1] 0xFF 0x31 then .ok else .dataCorruption) ∧
  (crc8 [0x00, 0x00] 0xFF 0x31 = 0x81 ∧ crc8 [0xFF, 0xFF] 0xFF 0x31 = 0xAC ∧
    ∀ (s : State) (x : Byte), x = 0x00 ∨ x = 0xFF → ∀ n : Nat, n = 3 ∨ n = 6 →
      ∃ t, exec (.validate (List.replicate n x)) s = .next t ∧ t.rsp.status = .dataCorruption)

/-- Tier 2. R75 (f) as the validator shows it: one corrupted data byte of a good sub-frame is always DataCorruption, in a
3-byte frame and in either half of a 6-byte frame, whatever the other half holds. -/
def Obligations.OneCorruptedDataByteIsDetected : Prop :=
  ∀ (s : State) (d0 d1 x0 x1 : Byte), x0 ≠ d0 ∧ x1 = d1 ∨ x0 = d0 ∧ x1 ≠ d1 →
    (∃ t, exec (.validate [x0, x1, crc8 [d0, d1] 0xFF 0x31]) s = .next t ∧ t.rsp.status = .dataCorruption) ∧
    (∀ e0 e1 c' : Byte,
      ∃ t, exec (.validate [x0, x1, crc8 [d0, d1] 0xFF 0x31, e0, e1, c']) s = .next t ∧
        t.rsp.status = .dataCorruption) ∧
    (∀ e0 e1 c' : Byte,
      ∃ t, exec (.validate [e0, e1, c', x0, x1, crc8 [d0, d1] 0xFF 0x31]) s = .next t ∧
        t.rsp.status = .dataCorruption)

/-- R16, R32, R142: a frame loaded into the buffer reads back byte for byte from FB[0] on, FLEN is its length, and the
bytes above it keep what they held. -/
def Obligations.LoadedFrameReadsBack : Prop :=
  ∀ (s : State) (bytes : List Byte), bytes.length ≤ 6 →
    (∀ (i : Fin 6) (h : i.val < bytes.length), (s.loadFrame bytes).fb.read i = bytes[i.val]) ∧
    (∀ i : Fin 6, bytes.length ≤ i.val → (s.loadFrame bytes).fb.read i = s.fb.read i) ∧
    (s.loadFrame bytes).flen.toNat = bytes.length

/-! ### The readouts -/

/-- R124: READ_MEAS in Idle or SingleShot sends nothing, reads 6 bytes and, where the frame is good or unchecked,
returns the two exact values of R123. -/
def Obligations.ReadMeasurementOutsidePeriodic : Prop :=
  ∀ (s : State) (b : Bytes6), s.mode ≠ .periodic → s.nextAnswer = .returned b →
    (s.checkEn = true → FrameGood b) →
    ∃ t, exec .readMeas s = .next t ∧ t.rsp.status = .ok ∧
      t.rsp.r0.toInt = (b.b0.toNat * 256 + b.b1.toNat) * 2670328832 - 45000000000000 ∧
      t.rsp.r1.toNat = (b.b3.toNat * 256 + b.b4.toNat) * 1525902190 ∧
      t.events = s.events ++ [.read s.params.devAddr 0x00 6 [b.b0, b.b1, b.b2, b.b3, b.b4, b.b5]] ∧
      t.answers = s.answers.tail ∧ SameMode s t ∧ SameSettings s t ∧ t.inbox = s.inbox ∧ t.seq = .idle ∧
      (s.checkEn = false → t.acc = s.acc)

/-- R124, R127: in Periodic READ_MEAS and NEXT alike send the fetch command, read 6 bytes and, where the frame is good
or unchecked, return the two exact values of R123. -/
def Obligations.ReadMeasurementAndNextInPeriodic : Prop :=
  ∀ (s : State) (a b : Bytes6) (i : Instr), i = .readMeas ∨ i = .iterNext →
    s.mode = .periodic → s.nextAnswer = .returned a → s.dropAnswer.nextAnswer = .returned b →
    (s.checkEn = true → FrameGood b) →
    ∃ t, exec i s = .next t ∧ t.rsp.status = .ok ∧
      t.rsp.r0.toInt = (b.b0.toNat * 256 + b.b1.toNat) * 2670328832 - 45000000000000 ∧
      t.rsp.r1.toNat = (b.b3.toNat * 256 + b.b4.toNat) * 1525902190 ∧
      t.events = s.events ++ [.write s.params.devAddr [0xE0, 0x00],
        .read s.params.devAddr 0x00 6 [b.b0, b.b1, b.b2, b.b3, b.b4, b.b5]] ∧
      t.answers = s.answers.tail.tail ∧ SameMode s t ∧ SameSettings s t ∧ t.inbox = s.inbox ∧ t.seq = .idle ∧
      (s.checkEn = false → t.acc = s.acc)

/-- R127: NEXT outside Periodic is unsupported, with INFO[7:0] = MODE, before any transport call; in Periodic it is
exactly READ_MEAS. -/
def Obligations.NextIsReadMeasurementOrUnsupported : Prop :=
  (∀ (w : ReqWord) (din : List Byte), w &&& 0xFF000000 = 0x70000000 → decode (.request w din) = .ok .iterNext) ∧
  ∀ s : State,
    (s.mode = .periodic → exec .iterNext s = exec .readMeas s) ∧
    (s.mode ≠ .periodic →
      ∃ t, exec .iterNext s = .next t ∧ t.rsp.status = .unsupportedOperation ∧
        t.rsp.info.toNat % 256 = (modeCode s.mode).toNat ∧ NoTransport s t ∧ SameMode s t ∧ SameSettings s t ∧
        SameWorking s t ∧ t.inbox = s.inbox ∧ t.seq = .idle)

/-- R125: GET_ID, where the frame is good or unchecked. -/
def Obligations.GetIdentifierMeaning : Prop :=
  ∀ (s : State) (a b : Bytes6), s.nextAnswer = .returned a → s.dropAnswer.nextAnswer = .returned b →
    (s.checkEn = true → FrameGood b) →
    ∃ t, exec .getId s = .next t ∧ t.rsp.status = .ok ∧
      t.rsp.r0.toNat = b.b0.toNat * 2 ^ 24 + b.b1.toNat * 2 ^ 16 + b.b3.toNat * 2 ^ 8 + b.b4.toNat ∧
      t.events = s.events ++ [.write s.params.devAddr [0x36, 0x82], .sleep 500,
        .read s.params.devAddr 0x00 6 [b.b0, b.b1, b.b2, b.b3, b.b4, b.b5]] ∧
      t.answers = s.answers.tail.tail ∧ SameMode s t ∧ SameSettings s t ∧ t.inbox = s.inbox ∧ t.seq = .idle ∧
      (s.checkEn = false → t.acc = s.acc)

/-- R126: GET_STATUS, where the sub-frame is good or unchecked; bytes 3 to 5 of the frame buffer are not written. -/
def Obligations.GetStatusMeaning : Prop :=
  ∀ (s : State) (a b : Bytes6), s.nextAnswer = .returned a → s.dropAnswer.nextAnswer = .returned b →
    (s.checkEn = true → b.b2 = crc8 [b.b0, b.b1] 0xFF 0x31) →
    ∃ t, exec .getStatus s = .next t ∧ t.rsp.status = .ok ∧
      t.rsp.r0.toNat = b.b0.toNat * 256 + b.b1.toNat ∧
      t.events = s.events ++ [.write s.params.devAddr [0xF3, 0x2D], .sleep 500,
        .read s.params.devAddr 0x00 3 [b.b0, b.b1, b.b2]] ∧
      t.answers = s.answers.tail.tail ∧ SameMode s t ∧ SameSettings s t ∧ t.inbox = s.inbox ∧ t.seq = .idle ∧
      (∀ i : Fin 6, 3 ≤ i.val → t.fb.read i = s.fb.read i) ∧ (s.checkEn = false → t.acc = s.acc)

/-- R152, R143, R159: with CHECK_EN = 1 a six-byte readout whose frame is bad ends with DataCorruption, reporting the
sub-frame at offset 0 before the one at offset 3; its transport calls stay in the history, and none is repeated. -/
def Obligations.CorruptedMeasurementOrIdentifierIsReported : Prop :=
  ∀ (s : State) (a b : Bytes6) (i : Instr) (before : List Event),
    s.checkEn = true → s.dropAnswer.nextAnswer = .returned b → s.nextAnswer = .returned a →
    (i = .getId ∧ before = [.write s.params.devAddr [0x36, 0x82], .sleep 500] ∨
      (i = .readMeas ∨ i = .iterNext) ∧ s.mode = .periodic ∧ before = [.write s.params.devAddr [0xE0, 0x00]]) →
    ¬ FrameGood b →
    ∃ t, exec i s = .next t ∧ t.rsp.status = .dataCorruption ∧
      t.rsp.info = (if b.b2 = crc8 [b.b0, b.b1] 0xFF 0x31 then
          0x03#8 ++ b.b5 ++ crc8 [b.b3, b.b4] 0xFF 0x31
        else 0x00#8 ++ b.b2 ++ crc8 [b.b0, b.b1] 0xFF 0x31) ∧
      t.events = s.events ++ before ++ [.read s.params.devAddr 0x00 6 [b.b0, b.b1, b.b2, b.b3, b.b4, b.b5]] ∧
      t.answers = s.answers.tail.tail ∧ SameMode s t ∧ SameSettings s t ∧ t.inbox = s.inbox ∧ t.seq = .idle

/-- R152, R143, R159: the same for READ_MEAS outside Periodic and for GET_STATUS, whose frame has one sub-frame; the
transport calls made stay in the history, and none is repeated. -/
def Obligations.CorruptedSingleReadOrStatusIsReported : Prop :=
  ∀ (s : State) (a b : Bytes6), s.checkEn = true → s.nextAnswer = .returned a →
    (s.mode ≠ .periodic → ¬ FrameGood a →
      ∃ t, exec .readMeas s = .next t ∧ t.rsp.status = .dataCorruption ∧
        t.rsp.info = (if a.b2 = crc8 [a.b0, a.b1] 0xFF 0x31 then
            0x03#8 ++ a.b5 ++ crc8 [a.b3, a.b4] 0xFF 0x31
          else 0x00#8 ++ a.b2 ++ crc8 [a.b0, a.b1] 0xFF 0x31) ∧
        t.events = s.events ++ [.read s.params.devAddr 0x00 6 [a.b0, a.b1, a.b2, a.b3, a.b4, a.b5]] ∧
        t.answers = s.answers.tail ∧ SameMode s t ∧ SameSettings s t ∧ t.inbox = s.inbox ∧ t.seq = .idle) ∧
    (s.dropAnswer.nextAnswer = .returned b → b.b2 ≠ crc8 [b.b0, b.b1] 0xFF 0x31 →
      ∃ t, exec .getStatus s = .next t ∧ t.rsp.status = .dataCorruption ∧
        t.rsp.info = 0x00#8 ++ b.b2 ++ crc8 [b.b0, b.b1] 0xFF 0x31 ∧
        t.events = s.events ++ [.write s.params.devAddr [0xF3, 0x2D], .sleep 500,
          .read s.params.devAddr 0x00 3 [b.b0, b.b1, b.b2]] ∧
        t.answers = s.answers.tail.tail ∧
        (∀ i : Fin 6, 3 ≤ i.val → t.fb.read i = s.fb.read i) ∧ SameMode s t ∧ SameSettings s t ∧ t.inbox = s.inbox ∧
        t.seq = .idle)

/-- R121, in units of 10^-12 degrees Celsius (R123): the temperature is the exact linear function, strictly increasing,
with the exact end points; it is negative exactly when the raw word is at most 16851 (R129). -/
def Obligations.TemperatureIsTheExactLinearFunction : Prop :=
  (∀ raw : Half, (tPico raw).toInt = raw.toNat * 2670328832 - 45 * 10 ^ 12) ∧
  (∀ raw raw' : Half, raw < raw' → (tPico raw).toInt < (tPico raw').toInt) ∧
  (tPico 0).toInt = -45 * 10 ^ 12 ∧ (tPico 0xFFFF).toInt = 130000000005120 ∧
  (∀ raw : Half, (tPico raw).toInt < 0 ↔ raw.toNat ≤ 16851)

/-- R122, in units of 10^-12 percent (R123): the humidity is the exact linear function without offset and without
clamping, strictly increasing, with the exact end points. -/
def Obligations.HumidityIsTheExactLinearFunction : Prop :=
  (∀ raw : Half, (rhPico raw).toNat = raw.toNat * 1525902190) ∧
  (∀ raw raw' : Half, raw < raw' → (rhPico raw).toNat < (rhPico raw').toNat) ∧
  (rhPico 0).toNat = 0 ∧ (rhPico 0xFFFF).toNat = 100000000021650
end

