-- ==== Sys2Proof/Laws/Memory.lean ====
section
/-! SUPPORT. The frame buffer: read after write, and every operation keeps the canonical form. -/

namespace Sys2Proof.Machine

/-- The canonical form from an address on holds from a lower one on. -/
theorem Memory.wfFrom_mono {lo lo' : Nat} {m : Memory} (h : lo' ≤ lo) (hm : m.wfFrom lo = true) :
    m.wfFrom lo' = true := by
  cases m with
  | nil => rfl
  | cons c rest =>
    simp only [Memory.wfFrom, Bool.and_eq_true, decide_eq_true_eq] at hm ⊢
    obtain ⟨⟨⟨h1, h2⟩, h3⟩, h4⟩ := hm
    exact ⟨⟨⟨by omega, h2⟩, h3⟩, h4⟩

theorem Memory.lookup_insert (m : Memory) (a x : Nat) (b : Byte) :
    (m.insert a b).lookup x = if x = a then b else m.lookup x := by
  induction m with
  | nil => simp only [Memory.insert, Memory.lookup, eq_comm]
  | cons c rest ih =>
    simp only [Memory.insert]
    split
    · simp only [Memory.lookup, eq_comm]
    · split
      · rename_i h1 h2
        simp only [Memory.lookup, ← h2, eq_comm (a := a)]
        split <;> simp_all
      · simp only [Memory.lookup, ih]
        split
        · rename_i h1 h2 hc
          rw [if_neg (by omega)]
        · rfl

theorem Memory.lookup_erase (m : Memory) (a x : Nat) :
    (m.erase a).lookup x = if x = a then Memory.unlisted else m.lookup x := by
  induction m with
  | nil => simp [Memory.erase, Memory.lookup]
  | cons c rest ih =>
    simp only [Memory.erase]
    split
    · rename_i hc
      rw [ih]
      split
      · rfl
      · rw [Memory.lookup, if_neg (by omega)]
    · rename_i hc
      simp only [Memory.lookup, ih]
      split
      · rw [if_neg (by omega)]
      · rfl

theorem Memory.wfFrom_insert {lo a : Nat} {m : Memory} {b : Byte} (hm : m.wfFrom lo = true) (hlo : lo ≤ a)
    (ha : a < 6) (hb : b ≠ Memory.unlisted) : (m.insert a b).wfFrom lo = true := by
  induction m generalizing lo with
  | nil => simp [Memory.insert, Memory.wfFrom, hlo, ha, hb]
  | cons c rest ih =>
    simp only [Memory.wfFrom, Bool.and_eq_true, decide_eq_true_eq] at hm
    obtain ⟨⟨⟨h1, h2⟩, h3⟩, h4⟩ := hm
    simp only [Memory.insert]
    split
    · simp only [Memory.wfFrom, Bool.and_eq_true, decide_eq_true_eq]
      exact ⟨⟨⟨hlo, ha⟩, hb⟩, ⟨⟨by omega, h2⟩, h3⟩, h4⟩
    · split
      · simp only [Memory.wfFrom, Bool.and_eq_true, decide_eq_true_eq]
        exact ⟨⟨⟨hlo, ha⟩, hb⟩, Memory.wfFrom_mono (by omega) h4⟩
      · simp only [Memory.wfFrom, Bool.and_eq_true, decide_eq_true_eq]
        exact ⟨⟨⟨h1, h2⟩, h3⟩, ih h4 (by omega)⟩

theorem Memory.wfFrom_erase {lo a : Nat} {m : Memory} (hm : m.wfFrom lo = true) : (m.erase a).wfFrom lo = true := by
  induction m generalizing lo with
  | nil => rfl
  | cons c rest ih =>
    simp only [Memory.wfFrom, Bool.and_eq_true, decide_eq_true_eq] at hm
    obtain ⟨⟨⟨h1, h2⟩, h3⟩, h4⟩ := hm
    simp only [Memory.erase]
    split
    · exact ih (Memory.wfFrom_mono (by omega) h4)
    · simp only [Memory.wfFrom, Bool.and_eq_true, decide_eq_true_eq]
      exact ⟨⟨⟨h1, h2⟩, h3⟩, ih h4⟩

/-- A write keeps the canonical form. -/
theorem Memory.wf_write {m : Memory} (hm : m.wf = true) (i : Fin 6) (b : Byte) : (m.write i b).wf = true := by
  unfold Memory.write Memory.wf at *
  split
  · exact Memory.wfFrom_erase hm
  · exact Memory.wfFrom_insert hm (Nat.zero_le _) i.isLt ‹_›

/-- What one byte reads as after a write to one byte; no canonical form is needed. -/
theorem Memory.read_write (m : Memory) (i j : Fin 6) (b : Byte) :
    (m.write i b).read j = if j = i then b else m.read j := by
  unfold Memory.write Memory.read
  have hv : (j.val = i.val) = (j = i) := by simp [Fin.ext_iff]
  split
  · rename_i hb
    rw [Memory.lookup_erase, hb]
    simp only [hv]
  · rw [Memory.lookup_insert]
    simp only [hv]

/-- Writing several bytes keeps the canonical form. -/
theorem Memory.wf_writeAll {m : Memory} (hm : m.wf = true) (l : List (Fin 6 × Byte)) : (m.writeAll l).wf = true := by
  induction l generalizing m with
  | nil => exact hm
  | cons p rest ih => exact ih (Memory.wf_write hm p.1 p.2)

/-- Loading a frame keeps the canonical form. -/
theorem Memory.wf_storeFrame {m : Memory} (hm : m.wf = true) (bytes : List Byte) : (m.storeFrame bytes).wf = true :=
  Memory.wf_writeAll hm _

/-- Writing several bytes leaves every byte alone that is not among them. -/
theorem Memory.read_writeAll_of_notMem (m : Memory) {l : List (Fin 6 × Byte)} {i : Fin 6}
    (hi : ∀ p ∈ l, p.1 ≠ i) : (m.writeAll l).read i = m.read i := by
  induction l generalizing m with
  | nil => rfl
  | cons p rest ih =>
    have hp : ¬ i = p.1 := fun h => hi p (by simp) h.symm
    rw [Memory.writeAll, ih _ (fun q hq => hi q (by simp [hq])), Memory.read_write, if_neg hp]

/-- A frame of three bytes, as it reads once loaded. -/
theorem Memory.read_storeFrame_three (m : Memory) (b0 b1 b2 : Byte) (i : Fin 6) :
    (m.storeFrame [b0, b1, b2]).read i =
      if i = 0 then b0 else if i = 1 then b1 else if i = 2 then b2 else m.read i := by
  simp only [Memory.storeFrame, fbIndices, List.zip_cons_cons, List.zip_nil_right, Memory.writeAll, Memory.read_write]
  fin_cases i <;> rfl

/-- A frame of six bytes, as it reads once loaded. -/
theorem Memory.read_storeFrame_six (m : Memory) (b0 b1 b2 b3 b4 b5 : Byte) (i : Fin 6) :
    (m.storeFrame [b0, b1, b2, b3, b4, b5]).read i =
      if i = 0 then b0 else if i = 1 then b1 else if i = 2 then b2 else if i = 3 then b3 else if i = 4 then b4
      else b5 := by
  simp only [Memory.storeFrame, fbIndices, List.zip_cons_cons, List.zip_nil_right, Memory.writeAll, Memory.read_write]
  fin_cases i <;> rfl

/-- The frame read back is the frame loaded: three bytes. -/
theorem Memory.frame_storeFrame_three (m : Memory) (b0 b1 b2 : Byte) :
    (m.storeFrame [b0, b1, b2]).frame 3 = [b0, b1, b2] := by
  simp only [Memory.frame, fbIndices, List.take, List.map, Memory.read_storeFrame_three]
  rfl

/-- The frame read back is the frame loaded: six bytes. -/
theorem Memory.frame_storeFrame_six (m : Memory) (b0 b1 b2 b3 b4 b5 : Byte) :
    (m.storeFrame [b0, b1, b2, b3, b4, b5]).frame 6 = [b0, b1, b2, b3, b4, b5] := by
  simp only [Memory.frame, fbIndices, List.take, List.map, Memory.read_storeFrame_six]
  rfl

/-- Loading three bytes leaves bytes 3 to 5 alone. -/
theorem Memory.read_storeFrame_of_le (m : Memory) (bytes : List Byte) {i : Fin 6} (h : bytes.length ≤ i.val) :
    (m.storeFrame bytes).read i = m.read i := by
  apply Memory.read_writeAll_of_notMem
  intro p hp hpi
  obtain ⟨k, hk, rfl⟩ := List.getElem_of_mem hp
  have hk' : k < bytes.length := by simp at hk; omega
  have hk6 : k < 6 := by have := i.isLt; omega
  have : ((fbIndices.zip bytes)[k]).1 = ⟨k, hk6⟩ := by
    simp only [List.getElem_zip]
    interval_cases k <;> rfl
  rw [this] at hpi
  have : k = i.val := by rw [← hpi]
  omega

end Sys2Proof.Machine
end

