-- ==== Sys2Proof/Laws/State.lean ====
section
/-! SUPPORT. One lemma per field and named update of State, true by rfl, so that no later proof unfolds a record
update. -/

namespace Sys2Proof.Machine

section
variable (s : State)

@[simp] theorem State.logEvent_mode (e : Event) : (s.logEvent e).mode = s.mode := rfl
@[simp] theorem State.logEvent_rep (e : Event) : (s.logEvent e).rep = s.rep := rfl
@[simp] theorem State.logEvent_rate (e : Event) : (s.logEvent e).rate = s.rate := rfl
@[simp] theorem State.logEvent_checkEn (e : Event) : (s.logEvent e).checkEn = s.checkEn := rfl
@[simp] theorem State.logEvent_acc (e : Event) : (s.logEvent e).acc = s.acc := rfl
@[simp] theorem State.logEvent_fb (e : Event) : (s.logEvent e).fb = s.fb := rfl
@[simp] theorem State.logEvent_flen (e : Event) : (s.logEvent e).flen = s.flen := rfl
@[simp] theorem State.logEvent_rsp (e : Event) : (s.logEvent e).rsp = s.rsp := rfl
@[simp] theorem State.logEvent_events (e : Event) : (s.logEvent e).events = s.events ++ [e] := rfl
@[simp] theorem State.logEvent_params (e : Event) : (s.logEvent e).params = s.params := rfl
@[simp] theorem State.logEvent_inbox (e : Event) : (s.logEvent e).inbox = s.inbox := rfl
@[simp] theorem State.logEvent_answers (e : Event) : (s.logEvent e).answers = s.answers := rfl
@[simp] theorem State.logEvent_seq (e : Event) : (s.logEvent e).seq = s.seq := rfl
@[simp] theorem State.logEvent_fresh (e : Event) : (s.logEvent e).fresh = s.fresh := rfl

@[simp] theorem State.setAcc_mode (a : Byte) : (s.setAcc a).mode = s.mode := rfl
@[simp] theorem State.setAcc_rep (a : Byte) : (s.setAcc a).rep = s.rep := rfl
@[simp] theorem State.setAcc_rate (a : Byte) : (s.setAcc a).rate = s.rate := rfl
@[simp] theorem State.setAcc_checkEn (a : Byte) : (s.setAcc a).checkEn = s.checkEn := rfl
@[simp] theorem State.setAcc_acc (a : Byte) : (s.setAcc a).acc = a := rfl
@[simp] theorem State.setAcc_fb (a : Byte) : (s.setAcc a).fb = s.fb := rfl
@[simp] theorem State.setAcc_flen (a : Byte) : (s.setAcc a).flen = s.flen := rfl
@[simp] theorem State.setAcc_rsp (a : Byte) : (s.setAcc a).rsp = s.rsp := rfl
@[simp] theorem State.setAcc_events (a : Byte) : (s.setAcc a).events = s.events := rfl
@[simp] theorem State.setAcc_params (a : Byte) : (s.setAcc a).params = s.params := rfl
@[simp] theorem State.setAcc_inbox (a : Byte) : (s.setAcc a).inbox = s.inbox := rfl
@[simp] theorem State.setAcc_answers (a : Byte) : (s.setAcc a).answers = s.answers := rfl
@[simp] theorem State.setAcc_seq (a : Byte) : (s.setAcc a).seq = s.seq := rfl
@[simp] theorem State.setAcc_fresh (a : Byte) : (s.setAcc a).fresh = s.fresh := rfl

@[simp] theorem State.setMode_mode (m : Mode) : (s.setMode m).mode = m := rfl
@[simp] theorem State.setMode_rep (m : Mode) : (s.setMode m).rep = s.rep := rfl
@[simp] theorem State.setMode_rate (m : Mode) : (s.setMode m).rate = s.rate := rfl
@[simp] theorem State.setMode_checkEn (m : Mode) : (s.setMode m).checkEn = s.checkEn := rfl
@[simp] theorem State.setMode_acc (m : Mode) : (s.setMode m).acc = s.acc := rfl
@[simp] theorem State.setMode_fb (m : Mode) : (s.setMode m).fb = s.fb := rfl
@[simp] theorem State.setMode_flen (m : Mode) : (s.setMode m).flen = s.flen := rfl
@[simp] theorem State.setMode_rsp (m : Mode) : (s.setMode m).rsp = s.rsp := rfl
@[simp] theorem State.setMode_events (m : Mode) : (s.setMode m).events = s.events := rfl
@[simp] theorem State.setMode_params (m : Mode) : (s.setMode m).params = s.params := rfl
@[simp] theorem State.setMode_inbox (m : Mode) : (s.setMode m).inbox = s.inbox := rfl
@[simp] theorem State.setMode_answers (m : Mode) : (s.setMode m).answers = s.answers := rfl
@[simp] theorem State.setMode_seq (m : Mode) : (s.setMode m).seq = s.seq := rfl
@[simp] theorem State.setMode_fresh (m : Mode) : (s.setMode m).fresh = s.fresh := rfl

@[simp] theorem State.setRep_mode (r : Rep) : (s.setRep r).mode = s.mode := rfl
@[simp] theorem State.setRep_rep (r : Rep) : (s.setRep r).rep = some r := rfl
@[simp] theorem State.setRep_rate (r : Rep) : (s.setRep r).rate = s.rate := rfl
@[simp] theorem State.setRep_checkEn (r : Rep) : (s.setRep r).checkEn = s.checkEn := rfl
@[simp] theorem State.setRep_acc (r : Rep) : (s.setRep r).acc = s.acc := rfl
@[simp] theorem State.setRep_fb (r : Rep) : (s.setRep r).fb = s.fb := rfl
@[simp] theorem State.setRep_flen (r : Rep) : (s.setRep r).flen = s.flen := rfl
@[simp] theorem State.setRep_rsp (r : Rep) : (s.setRep r).rsp = s.rsp := rfl
@[simp] theorem State.setRep_events (r : Rep) : (s.setRep r).events = s.events := rfl
@[simp] theorem State.setRep_params (r : Rep) : (s.setRep r).params = s.params := rfl
@[simp] theorem State.setRep_inbox (r : Rep) : (s.setRep r).inbox = s.inbox := rfl
@[simp] theorem State.setRep_answers (r : Rep) : (s.setRep r).answers = s.answers := rfl
@[simp] theorem State.setRep_seq (r : Rep) : (s.setRep r).seq = s.seq := rfl
@[simp] theorem State.setRep_fresh (r : Rep) : (s.setRep r).fresh = s.fresh := rfl

@[simp] theorem State.setRate_mode (r : Rate) : (s.setRate r).mode = s.mode := rfl
@[simp] theorem State.setRate_rep (r : Rate) : (s.setRate r).rep = s.rep := rfl
@[simp] theorem State.setRate_rate (r : Rate) : (s.setRate r).rate = some r := rfl
@[simp] theorem State.setRate_checkEn (r : Rate) : (s.setRate r).checkEn = s.checkEn := rfl
@[simp] theorem State.setRate_acc (r : Rate) : (s.setRate r).acc = s.acc := rfl
@[simp] theorem State.setRate_fb (r : Rate) : (s.setRate r).fb = s.fb := rfl
@[simp] theorem State.setRate_flen (r : Rate) : (s.setRate r).flen = s.flen := rfl
@[simp] theorem State.setRate_rsp (r : Rate) : (s.setRate r).rsp = s.rsp := rfl
@[simp] theorem State.setRate_events (r : Rate) : (s.setRate r).events = s.events := rfl
@[simp] theorem State.setRate_params (r : Rate) : (s.setRate r).params = s.params := rfl
@[simp] theorem State.setRate_inbox (r : Rate) : (s.setRate r).inbox = s.inbox := rfl
@[simp] theorem State.setRate_answers (r : Rate) : (s.setRate r).answers = s.answers := rfl
@[simp] theorem State.setRate_seq (r : Rate) : (s.setRate r).seq = s.seq := rfl
@[simp] theorem State.setRate_fresh (r : Rate) : (s.setRate r).fresh = s.fresh := rfl

@[simp] theorem State.loadFrame_mode (bytes : List Byte) : (s.loadFrame bytes).mode = s.mode := rfl
@[simp] theorem State.loadFrame_rep (bytes : List Byte) : (s.loadFrame bytes).rep = s.rep := rfl
@[simp] theorem State.loadFrame_rate (bytes : List Byte) : (s.loadFrame bytes).rate = s.rate := rfl
@[simp] theorem State.loadFrame_checkEn (bytes : List Byte) : (s.loadFrame bytes).checkEn = s.checkEn := rfl
@[simp] theorem State.loadFrame_acc (bytes : List Byte) : (s.loadFrame bytes).acc = s.acc := rfl
@[simp] theorem State.loadFrame_fb (bytes : List Byte) : (s.loadFrame bytes).fb = s.fb.storeFrame bytes := rfl
@[simp] theorem State.loadFrame_flen (bytes : List Byte) :
    (s.loadFrame bytes).flen =
      BitVec.ofNat 3 bytes.length := rfl
@[simp] theorem State.loadFrame_rsp (bytes : List Byte) : (s.loadFrame bytes).rsp = s.rsp := rfl
@[simp] theorem State.loadFrame_events (bytes : List Byte) : (s.loadFrame bytes).events = s.events := rfl
@[simp] theorem State.loadFrame_params (bytes : List Byte) : (s.loadFrame bytes).params = s.params := rfl
@[simp] theorem State.loadFrame_inbox (bytes : List Byte) : (s.loadFrame bytes).inbox = s.inbox := rfl
@[simp] theorem State.loadFrame_answers (bytes : List Byte) : (s.loadFrame bytes).answers = s.answers := rfl
@[simp] theorem State.loadFrame_seq (bytes : List Byte) : (s.loadFrame bytes).seq = s.seq := rfl
@[simp] theorem State.loadFrame_fresh (bytes : List Byte) : (s.loadFrame bytes).fresh = s.fresh := rfl

@[simp] theorem State.dropAcc_mode : (s.dropAcc).mode = s.mode := rfl
@[simp] theorem State.dropAcc_rep : (s.dropAcc).rep = s.rep := rfl
@[simp] theorem State.dropAcc_rate : (s.dropAcc).rate = s.rate := rfl
@[simp] theorem State.dropAcc_checkEn : (s.dropAcc).checkEn = s.checkEn := rfl
@[simp] theorem State.dropAcc_acc : (s.dropAcc).acc = Config.freeAcc s.fresh := rfl
@[simp] theorem State.dropAcc_fb : (s.dropAcc).fb = s.fb := rfl
@[simp] theorem State.dropAcc_flen : (s.dropAcc).flen = s.flen := rfl
@[simp] theorem State.dropAcc_rsp : (s.dropAcc).rsp = s.rsp := rfl
@[simp] theorem State.dropAcc_events : (s.dropAcc).events = s.events := rfl
@[simp] theorem State.dropAcc_params : (s.dropAcc).params = s.params := rfl
@[simp] theorem State.dropAcc_inbox : (s.dropAcc).inbox = s.inbox := rfl
@[simp] theorem State.dropAcc_answers : (s.dropAcc).answers = s.answers := rfl
@[simp] theorem State.dropAcc_seq : (s.dropAcc).seq = s.seq := rfl
@[simp] theorem State.dropAcc_fresh : (s.dropAcc).fresh = s.fresh + 1 := rfl

@[simp] theorem State.dropFrame_mode (n : Nat) : (s.dropFrame n).mode = s.mode := rfl
@[simp] theorem State.dropFrame_rep (n : Nat) : (s.dropFrame n).rep = s.rep := rfl
@[simp] theorem State.dropFrame_rate (n : Nat) : (s.dropFrame n).rate = s.rate := rfl
@[simp] theorem State.dropFrame_checkEn (n : Nat) : (s.dropFrame n).checkEn = s.checkEn := rfl
@[simp] theorem State.dropFrame_acc (n : Nat) : (s.dropFrame n).acc = s.acc := rfl
@[simp] theorem State.dropFrame_fb (n : Nat) :
    (s.dropFrame n).fb =
      s.fb.storeFrame ((fbIndices.take n).map fun i => Config.freeByte s.fresh i.val) := rfl
@[simp] theorem State.dropFrame_flen (n : Nat) : (s.dropFrame n).flen = Config.freeFlen s.fresh := rfl
@[simp] theorem State.dropFrame_rsp (n : Nat) : (s.dropFrame n).rsp = s.rsp := rfl
@[simp] theorem State.dropFrame_events (n : Nat) : (s.dropFrame n).events = s.events := rfl
@[simp] theorem State.dropFrame_params (n : Nat) : (s.dropFrame n).params = s.params := rfl
@[simp] theorem State.dropFrame_inbox (n : Nat) : (s.dropFrame n).inbox = s.inbox := rfl
@[simp] theorem State.dropFrame_answers (n : Nat) : (s.dropFrame n).answers = s.answers := rfl
@[simp] theorem State.dropFrame_seq (n : Nat) : (s.dropFrame n).seq = s.seq := rfl
@[simp] theorem State.dropFrame_fresh (n : Nat) : (s.dropFrame n).fresh = s.fresh + 1 := rfl

@[simp] theorem State.bump_mode : (s.bump).mode = s.mode := rfl
@[simp] theorem State.bump_rep : (s.bump).rep = s.rep := rfl
@[simp] theorem State.bump_rate : (s.bump).rate = s.rate := rfl
@[simp] theorem State.bump_checkEn : (s.bump).checkEn = s.checkEn := rfl
@[simp] theorem State.bump_acc : (s.bump).acc = s.acc := rfl
@[simp] theorem State.bump_fb : (s.bump).fb = s.fb := rfl
@[simp] theorem State.bump_flen : (s.bump).flen = s.flen := rfl
@[simp] theorem State.bump_rsp : (s.bump).rsp = s.rsp := rfl
@[simp] theorem State.bump_events : (s.bump).events = s.events := rfl
@[simp] theorem State.bump_params : (s.bump).params = s.params := rfl
@[simp] theorem State.bump_inbox : (s.bump).inbox = s.inbox := rfl
@[simp] theorem State.bump_answers : (s.bump).answers = s.answers := rfl
@[simp] theorem State.bump_seq : (s.bump).seq = s.seq := rfl
@[simp] theorem State.bump_fresh : (s.bump).fresh = s.fresh + 1 := rfl

@[simp] theorem State.dropInput_mode : (s.dropInput).mode = s.mode := rfl
@[simp] theorem State.dropInput_rep : (s.dropInput).rep = s.rep := rfl
@[simp] theorem State.dropInput_rate : (s.dropInput).rate = s.rate := rfl
@[simp] theorem State.dropInput_checkEn : (s.dropInput).checkEn = s.checkEn := rfl
@[simp] theorem State.dropInput_acc : (s.dropInput).acc = s.acc := rfl
@[simp] theorem State.dropInput_fb : (s.dropInput).fb = s.fb := rfl
@[simp] theorem State.dropInput_flen : (s.dropInput).flen = s.flen := rfl
@[simp] theorem State.dropInput_rsp : (s.dropInput).rsp = s.rsp := rfl
@[simp] theorem State.dropInput_events : (s.dropInput).events = s.events := rfl
@[simp] theorem State.dropInput_params : (s.dropInput).params = s.params := rfl
@[simp] theorem State.dropInput_inbox : (s.dropInput).inbox = s.inbox.tail := rfl
@[simp] theorem State.dropInput_answers : (s.dropInput).answers = s.answers := rfl
@[simp] theorem State.dropInput_seq : (s.dropInput).seq = s.seq := rfl
@[simp] theorem State.dropInput_fresh : (s.dropInput).fresh = s.fresh := rfl

@[simp] theorem State.dropAnswer_mode : (s.dropAnswer).mode = s.mode := rfl
@[simp] theorem State.dropAnswer_rep : (s.dropAnswer).rep = s.rep := rfl
@[simp] theorem State.dropAnswer_rate : (s.dropAnswer).rate = s.rate := rfl
@[simp] theorem State.dropAnswer_checkEn : (s.dropAnswer).checkEn = s.checkEn := rfl
@[simp] theorem State.dropAnswer_acc : (s.dropAnswer).acc = s.acc := rfl
@[simp] theorem State.dropAnswer_fb : (s.dropAnswer).fb = s.fb := rfl
@[simp] theorem State.dropAnswer_flen : (s.dropAnswer).flen = s.flen := rfl
@[simp] theorem State.dropAnswer_rsp : (s.dropAnswer).rsp = s.rsp := rfl
@[simp] theorem State.dropAnswer_events : (s.dropAnswer).events = s.events := rfl
@[simp] theorem State.dropAnswer_params : (s.dropAnswer).params = s.params := rfl
@[simp] theorem State.dropAnswer_inbox : (s.dropAnswer).inbox = s.inbox := rfl
@[simp] theorem State.dropAnswer_answers : (s.dropAnswer).answers = s.answers.tail := rfl
@[simp] theorem State.dropAnswer_seq : (s.dropAnswer).seq = s.seq := rfl
@[simp] theorem State.dropAnswer_fresh : (s.dropAnswer).fresh = s.fresh + 1 := rfl

@[simp] theorem State.respond_mode (st : Status) (r0 r1 : Option Long) (info : Option Info) :
    (s.respond st r0 r1 info).mode =
      s.mode := rfl
@[simp] theorem State.respond_rep (st : Status) (r0 r1 : Option Long) (info : Option Info) :
    (s.respond st r0 r1 info).rep =
      s.rep := rfl
@[simp] theorem State.respond_rate (st : Status) (r0 r1 : Option Long) (info : Option Info) :
    (s.respond st r0 r1 info).rate =
      s.rate := rfl
@[simp] theorem State.respond_checkEn (st : Status) (r0 r1 : Option Long) (info : Option Info) :
    (s.respond st r0 r1 info).checkEn =
      s.checkEn := rfl
@[simp] theorem State.respond_acc (st : Status) (r0 r1 : Option Long) (info : Option Info) :
    (s.respond st r0 r1 info).acc =
      s.acc := rfl
@[simp] theorem State.respond_fb (st : Status) (r0 r1 : Option Long) (info : Option Info) :
    (s.respond st r0 r1 info).fb =
      s.fb := rfl
@[simp] theorem State.respond_flen (st : Status) (r0 r1 : Option Long) (info : Option Info) :
    (s.respond st r0 r1 info).flen =
      s.flen := rfl
@[simp] theorem State.respond_rsp (st : Status) (r0 r1 : Option Long) (info : Option Info) :
    (s.respond st r0 r1 info).rsp =
      { status := st, r0 := r0.getD (Config.freeR0 s.fresh), r1 := r1.getD (Config.freeR1 s.fresh),
        info := info.getD (Config.freeInfo s.fresh) } := rfl
@[simp] theorem State.respond_events (st : Status) (r0 r1 : Option Long) (info : Option Info) :
    (s.respond st r0 r1 info).events =
      s.events := rfl
@[simp] theorem State.respond_params (st : Status) (r0 r1 : Option Long) (info : Option Info) :
    (s.respond st r0 r1 info).params =
      s.params := rfl
@[simp] theorem State.respond_inbox (st : Status) (r0 r1 : Option Long) (info : Option Info) :
    (s.respond st r0 r1 info).inbox =
      s.inbox := rfl
@[simp] theorem State.respond_answers (st : Status) (r0 r1 : Option Long) (info : Option Info) :
    (s.respond st r0 r1 info).answers =
      s.answers := rfl
@[simp] theorem State.respond_seq (st : Status) (r0 r1 : Option Long) (info : Option Info) :
    (s.respond st r0 r1 info).seq =
      .idle := rfl
@[simp] theorem State.respond_fresh (st : Status) (r0 r1 : Option Long) (info : Option Info) :
    (s.respond st r0 r1 info).fresh =
      s.fresh + 1 := rfl

@[simp] theorem State.block_mode : (s.block).mode = s.mode := rfl
@[simp] theorem State.block_rep : (s.block).rep = s.rep := rfl
@[simp] theorem State.block_rate : (s.block).rate = s.rate := rfl
@[simp] theorem State.block_checkEn : (s.block).checkEn = s.checkEn := rfl
@[simp] theorem State.block_acc : (s.block).acc = s.acc := rfl
@[simp] theorem State.block_fb : (s.block).fb = s.fb := rfl
@[simp] theorem State.block_flen : (s.block).flen = s.flen := rfl
@[simp] theorem State.block_rsp : (s.block).rsp = Config.freeRsp s.fresh := rfl
@[simp] theorem State.block_events : (s.block).events = s.events := rfl
@[simp] theorem State.block_params : (s.block).params = s.params := rfl
@[simp] theorem State.block_inbox : (s.block).inbox = s.inbox := rfl
@[simp] theorem State.block_answers : (s.block).answers = s.answers := rfl
@[simp] theorem State.block_seq : (s.block).seq = .blocked := rfl
@[simp] theorem State.block_fresh : (s.block).fresh = s.fresh + 1 := rfl

end

/-! ### The next answer of the transport does not depend on anything but the answers and the counter -/

section
variable (s : State)

@[simp] theorem State.nextAnswer_logEvent (e : Event) : (s.logEvent e).nextAnswer = s.nextAnswer := rfl
@[simp] theorem State.nextAnswer_loadFrame (bytes : List Byte) : (s.loadFrame bytes).nextAnswer = s.nextAnswer := rfl
@[simp] theorem State.nextAnswer_setMode (m : Mode) : (s.setMode m).nextAnswer = s.nextAnswer := rfl
@[simp] theorem State.nextAnswer_setAcc (a : Byte) : (s.setAcc a).nextAnswer = s.nextAnswer := rfl
@[simp] theorem State.nextAnswer_dropInput : s.dropInput.nextAnswer = s.nextAnswer := rfl

/-- Where answers are given, the next one is the first of them. -/
theorem State.nextAnswer_of_cons {a : Answer} {rest : List Answer} (h : s.answers = a :: rest) :
    s.nextAnswer = a := by
  simp [State.nextAnswer, h]

end

/-! ### How an operation ends -/

section
variable (s : State)

@[simp] theorem complete_ok (r : Result) : complete (.ok r s) = respondOk r s := rfl
@[simp] theorem complete_raise (e : Err) : complete (.raise e s) = respondError e s := rfl
@[simp] theorem complete_hang : complete (.hang s) = s.block := rfl
@[simp] theorem respondOk_nothing : respondOk .nothing s = s.respond .ok none none none := rfl
@[simp] theorem respondOk_value (v : Long) : respondOk (.value v) s = s.respond .ok (some v) none none := rfl
@[simp] theorem respondOk_reading (v w : Long) :
    respondOk (.reading v w) s = s.respond .ok (some v) (some w) none := rfl

end

section
variable {α β : Type} (s : State)

@[simp] theorem Flow.bind_ok (a : α) (f : α → State → Flow β) : (Flow.ok a s).bind f = f a s := rfl
@[simp] theorem Flow.bind_raise (e : Err) (f : α → State → Flow β) : (Flow.raise e s).bind f = .raise e s := rfl
@[simp] theorem Flow.bind_hang (f : α → State → Flow β) : (Flow.hang s).bind f = .hang s := rfl
@[simp] theorem Flow.mapState_ok (g : State → State) (a : α) : (Flow.ok a s).mapState g = .ok a (g s) := rfl
@[simp] theorem Flow.mapState_raise (g : State → State) (e : Err) :
    (Flow.raise e s : Flow α).mapState g = .raise e (g s) := rfl
@[simp] theorem Flow.mapState_hang (g : State → State) : (Flow.hang s : Flow α).mapState g = .hang s := rfl

end

/-- The frame buffer is in its canonical form at reset: it lists nothing. -/
theorem State.resetWith_fb_wf (c : Bool) (p : Params) : (State.resetWith c p).fb.wf = true := rfl

/-- The same for the reset with the open parameters. -/
theorem State.reset_fb_wf : State.reset.fb.wf = true := rfl

end Sys2Proof.Machine
end

