-- ==== Sys2Proof/Laws/Ops.lean ====
section
/-! SUPPORT. One spec lemma per shared operation: what it gives for each answer of the transport, and what it leaves
alone. Proofs about instructions cite these instead of unfolding the operations. -/

namespace Sys2Proof.Machine

section
variable {s : State}

/-! ### The transport's primitives, by the next answer -/

theorem busWrite_returned {b : Bytes6} (h : s.nextAnswer = .returned b) (bytes : List Byte) :
    busWrite bytes s = .ok () (s.dropAnswer.logEvent (.write s.params.devAddr bytes)) := by
  simp [busWrite, h]

theorem busWrite_failed (h : s.nextAnswer = .failed) (bytes : List Byte) :
    busWrite bytes s = .raise (.transportFailure .write) (s.dropAnswer.logEvent (.failed .write)) := by
  simp [busWrite, h]

theorem busWrite_never (h : s.nextAnswer = .never) (bytes : List Byte) : busWrite bytes s = .hang s.dropAnswer := by
  simp [busWrite, h]

theorem busReadReg_returned {b : Bytes6} (h : s.nextAnswer = .returned b) (n : Nat) :
    busReadReg n s =
      .ok (firstBytes n b) (s.dropAnswer.logEvent (.read s.params.devAddr 0 n (firstBytes n b))) := by
  simp [busReadReg, h, regAddr]

theorem busReadReg_failed (h : s.nextAnswer = .failed) (n : Nat) :
    busReadReg n s = .raise (.transportFailure .read) (s.dropAnswer.logEvent (.failed .read)) := by
  simp [busReadReg, h]

theorem busReadReg_never (h : s.nextAnswer = .never) (n : Nat) : busReadReg n s = .hang s.dropAnswer := by
  simp [busReadReg, h]

theorem sendCmd_returned {b : Bytes6} (h : s.nextAnswer = .returned b) (w : Half) :
    sendCmd w s = .ok () (s.dropAnswer.logEvent (.write s.params.devAddr (commandBytes w))) :=
  busWrite_returned h _

theorem sendCmd_failed (h : s.nextAnswer = .failed) (w : Half) :
    sendCmd w s = .raise (.transportFailure .write) (s.dropAnswer.logEvent (.failed .write)) :=
  busWrite_failed h _

theorem sendCmd_never (h : s.nextAnswer = .never) (w : Half) : sendCmd w s = .hang s.dropAnswer := busWrite_never h _

/-! ### An operation that sends one command -/

theorem sendThen_returned {b : Bytes6} (h : s.nextAnswer = .returned b) (w : Half) (rest : State → State) :
    sendThen w rest s = .ok .nothing (rest (s.dropAnswer.logEvent (.write s.params.devAddr (commandBytes w)))) := by
  simp [sendThen, sendCmd_returned h]

theorem sendThen_failed (h : s.nextAnswer = .failed) (w : Half) (rest : State → State) :
    sendThen w rest s = .raise (.transportFailure .write) (s.dropAnswer.logEvent (.failed .write)) := by
  simp [sendThen, sendCmd_failed h]

theorem sendThen_never (h : s.nextAnswer = .never) (w : Half) (rest : State → State) :
    sendThen w rest s = .hang s.dropAnswer := by
  simp [sendThen, sendCmd_never h]

theorem emit_returned {b : Bytes6} (h : s.nextAnswer = .returned b) (w : Half) :
    emit w s = .next (s.dropAnswer.logEvent (.write s.params.devAddr (commandBytes w))) := by
  simp [emit, sendCmd_returned h]

theorem emit_failed (h : s.nextAnswer = .failed) (w : Half) :
    emit w s =
      .next (respondError (.transportFailure .write) (s.dropAnswer.logEvent (.failed .write))) := by
  simp [emit, sendCmd_failed h]

theorem emit_never (h : s.nextAnswer = .never) (w : Half) : emit w s = .next s.dropAnswer.block := by
  simp [emit, sendCmd_never h]

end

/-! ### The two bytes of a command word and its parts -/

/-- The bytes of a word put together from two are those two, in order (R35). -/
@[simp] theorem commandBytes_append (hi lo : Byte) : commandBytes (hi ++ lo) = [hi, lo] := by
  simp only [commandBytes, List.cons.injEq, and_true]
  constructor <;> ext i h
  · simp only [BitVec.getElem_extractLsb']
    exact (BitVec.getLsbD_append ..).trans (by simp [BitVec.getLsbD_eq_getElem h])
  · simp only [BitVec.getElem_extractLsb']
    exact (BitVec.getLsbD_append ..).trans (by simp [h])

@[simp] theorem commandBytes_fetchWord : commandBytes fetchWord = [0xE0, 0x00] := rfl
@[simp] theorem commandBytes_readIdWord : commandBytes readIdWord = [0x36, 0x82] := rfl
@[simp] theorem commandBytes_readStatusWord : commandBytes readStatusWord = [0xF3, 0x2D] := rfl
@[simp] theorem commandBytes_softResetWord : commandBytes softResetWord = [0x30, 0xA2] := rfl
@[simp] theorem commandBytes_breakWord : commandBytes breakWord = [0x30, 0x93] := rfl
@[simp] theorem commandBytes_heaterOnWord : commandBytes heaterOnWord = [0x30, 0x6D] := rfl
@[simp] theorem commandBytes_heaterOffWord : commandBytes heaterOffWord = [0x30, 0x66] := rfl
@[simp] theorem commandBytes_ssCmd_low : commandBytes (ssCmd .low) = [0x24, 0x16] := rfl
@[simp] theorem commandBytes_ssCmd_medium : commandBytes (ssCmd .medium) = [0x24, 0x0B] := rfl
@[simp] theorem commandBytes_ssCmd_high : commandBytes (ssCmd .high) = [0x24, 0x00] := rfl

/-- A periodic word's two bytes are its table entry's (R83). -/
@[simp] theorem commandBytes_perCmd (t : PerTable) (q : Rate) (r : Rep) :
    commandBytes (perCmd t q r) = [(perRow t q).first, repByte (perRow t q).second r] :=
  commandBytes_append _ _

/-! ### Selectors -/

theorem repOf_of_gt {n : Nat} (h : 2 < n) : repOf n = none := by
  match n, h with
  | _ + 3, _ => rfl

theorem rateOf_of_gt {n : Nat} (h : 4 < n) : rateOf n = none := by
  match n, h with
  | _ + 5, _ => rfl

theorem repOf_of_le {n : Nat} (h : n ≤ 2) : ∃ r, repOf n = some r := by
  interval_cases n <;> exact ⟨_, rfl⟩

theorem rateOf_of_le {n : Nat} (h : n ≤ 4) : ∃ q, rateOf n = some q := by
  interval_cases n <;> exact ⟨_, rfl⟩

/-! ### Errors -/

@[simp] theorem respondError_eq (e : Err) (s : State) :
    respondError e s = s.respond (errStatus e) none none (errInfo e) := rfl

/-- The low byte of INFO is the field the error's code stands in (R57). -/
theorem packInfo_toNat_mod (hi mid lo : Byte) : (packInfo hi mid lo).toNat % 256 = lo.toNat := by
  have h : (hi ++ mid ++ lo).setWidth 8 = lo := by
    ext i h
    simp only [BitVec.getElem_setWidth]
    exact (BitVec.getLsbD_append ..).trans (by simp [h])
  simpa [packInfo] using congrArg BitVec.toNat h

/-- Two bytes as one 16-bit number, the first the more significant (R35, R120). -/
theorem toNat_append_byte (a b : Byte) : (a ++ b : Half).toNat = a.toNat * 256 + b.toNat := by
  rw [BitVec.toNat_append, Nat.shiftLeft_eq, Nat.mul_comm, ← Nat.two_pow_add_eq_or_of_lt b.isLt]

/-- INFO with nothing above its low byte. -/
theorem packInfo_zero_lt (lo : Byte) : (packInfo 0 0 lo).toNat < 256 := by
  revert lo
  decide +kernel

/-! ### The working registers after an operation -/

/-- Discarding a frame leaves the bytes above it alone. -/
theorem State.read_dropFrame_of_le (s : State) {n : Nat} {i : Fin 6} (h : n ≤ i.val) :
    (s.dropFrame n).fb.read i = s.fb.read i := by
  apply Memory.read_storeFrame_of_le
  simp
  omega

/-- Loading a frame leaves the bytes above it alone. -/
theorem State.read_loadFrame_of_le (s : State) {bytes : List Byte} {i : Fin 6} (h : bytes.length ≤ i.val) :
    (s.loadFrame bytes).fb.read i = s.fb.read i :=
  Memory.read_storeFrame_of_le _ _ h

/-! ### The validator, by the length of the frame -/

theorem checkSubFrame_good {d0 d1 c : Byte} (h : crc8 [d0, d1] 0xFF 0x31 = c) (place : SubFrame) (s : State) :
    checkSubFrame place d0 d1 c s = .ok () (s.setAcc c) := by
  subst h
  simp [checkSubFrame, crc8s, crcSeed, crcPoly]

theorem checkSubFrame_bad {d0 d1 c : Byte} (h : crc8 [d0, d1] 0xFF 0x31 ≠ c) (place : SubFrame) (s : State) :
    checkSubFrame place d0 d1 c s =
      .raise (.dataCorruption (crc8 [d0, d1] 0xFF 0x31) c place) (s.setAcc (crc8 [d0, d1] 0xFF 0x31)) :=
  if_neg h

theorem validate_three (d0 d1 c : Byte) (s : State) : validate [d0, d1, c] s = checkSubFrame .first d0 d1 c s := rfl

theorem validate_six (d0 d1 c e0 e1 c' : Byte) (s : State) :
    validate [d0, d1, c, e0, e1, c'] s =
      (checkSubFrame .first d0 d1 c s).bind fun _ t => checkSubFrame .second e0 e1 c' t := rfl

theorem validate_otherLength {buf : List Byte} (h3 : buf.length ≠ 3) (h6 : buf.length ≠ 6) (s : State) :
    validate buf s = .raise (.invalidArgument .bufferLength) s := by
  unfold validate
  split <;> simp_all

/-! ### VALIDATE, by the payload: how it ends and in which state -/

section
variable {d0 d1 c e0 e1 c' : Byte} (s : State)

theorem validateFlow_otherLength {din : List Byte} (h3 : din.length ≠ 3) (h6 : din.length ≠ 6) :
    validateFlow din s = .raise (.invalidArgument .bufferLength) s := by
  simp [validateFlow, h3, h6, validate_otherLength h3 h6]

theorem validateFlow_three_good (h : crc8 [d0, d1] 0xFF 0x31 = c) :
    validateFlow [d0, d1, c] s = .ok .nothing (((s.loadFrame [d0, d1, c]).setAcc c).dropAcc.dropFrame 3) := by
  rw [validateFlow, if_pos (.inl rfl), validate_three, checkSubFrame_good h]
  rfl

theorem validateFlow_three_bad (h : crc8 [d0, d1] 0xFF 0x31 ≠ c) :
    validateFlow [d0, d1, c] s =
      .raise (.dataCorruption (crc8 [d0, d1] 0xFF 0x31) c .first)
        (((s.loadFrame [d0, d1, c]).setAcc (crc8 [d0, d1] 0xFF 0x31)).dropAcc.dropFrame 3) := by
  rw [validateFlow, if_pos (.inl rfl), validate_three, checkSubFrame_bad h]
  simp only [Flow.mapState_raise, Flow.bind_raise, List.length_cons, List.length_nil]

theorem validateFlow_six_good (h : crc8 [d0, d1] 0xFF 0x31 = c) (h' : crc8 [e0, e1] 0xFF 0x31 = c') :
    validateFlow [d0, d1, c, e0, e1, c'] s =
      .ok .nothing ((((s.loadFrame [d0, d1, c, e0, e1, c']).setAcc c).setAcc c').dropAcc.dropFrame 6) := by
  rw [validateFlow, if_pos (.inr rfl), validate_six, checkSubFrame_good h, Flow.bind_ok, checkSubFrame_good h']
  rfl

theorem validateFlow_six_badFirst (h : crc8 [d0, d1] 0xFF 0x31 ≠ c) :
    validateFlow [d0, d1, c, e0, e1, c'] s =
      .raise (.dataCorruption (crc8 [d0, d1] 0xFF 0x31) c .first)
        (((s.loadFrame [d0, d1, c, e0, e1, c']).setAcc (crc8 [d0, d1] 0xFF 0x31)).dropAcc.dropFrame 6) := by
  rw [validateFlow, if_pos (.inr rfl), validate_six, checkSubFrame_bad h]
  simp only [Flow.mapState_raise, Flow.bind_raise, List.length_cons, List.length_nil]

theorem validateFlow_six_badSecond (h : crc8 [d0, d1] 0xFF 0x31 = c) (h' : crc8 [e0, e1] 0xFF 0x31 ≠ c') :
    validateFlow [d0, d1, c, e0, e1, c'] s =
      .raise (.dataCorruption (crc8 [e0, e1] 0xFF 0x31) c' .second)
        ((((s.loadFrame [d0, d1, c, e0, e1, c']).setAcc c).setAcc
          (crc8 [e0, e1] 0xFF 0x31)).dropAcc.dropFrame 6) := by
  rw [validateFlow, if_pos (.inr rfl), validate_six, checkSubFrame_good h, Flow.bind_ok, checkSubFrame_bad h']
  simp only [Flow.mapState_raise, Flow.bind_raise, List.length_cons, List.length_nil]

end

/-! ### A readout, by the next answer -/

section
variable {s : State}

theorem readout_returned {b : Bytes6} (h : s.nextAnswer = .returned b) (n : Nat) (dec : Memory → Result) :
    readout n dec s =
      decodeLoaded n dec
        ((s.dropAnswer.logEvent (.read s.params.devAddr 0 n (firstBytes n b))).loadFrame (firstBytes n b)) := by
  simp [readout, busReadReg_returned h]

theorem readout_failed (h : s.nextAnswer = .failed) (n : Nat) (dec : Memory → Result) :
    readout n dec s = .raise (.transportFailure .read) (s.dropAnswer.logEvent (.failed .read)) := by
  simp [readout, busReadReg_failed h]

theorem readout_never (h : s.nextAnswer = .never) (n : Nat) (dec : Memory → Result) :
    readout n dec s = .hang s.dropAnswer := by
  simp [readout, busReadReg_never h]

end

@[simp] theorem firstBytes_three (b : Bytes6) : firstBytes 3 b = [b.b0, b.b1, b.b2] := rfl

@[simp] theorem firstBytes_six (b : Bytes6) : firstBytes 6 b = [b.b0, b.b1, b.b2, b.b3, b.b4, b.b5] := rfl

/-- A frame that is not checked is decoded as it is (R143). -/
theorem decodeLoaded_unchecked {s : State} (h : s.checkEn = false) (n : Nat) (dec : Memory → Result) :
    decodeLoaded n dec s = .ok (dec s.fb) (dropWorking n false s) := by
  simp [decodeLoaded, checkLoaded, h]

/-- A frame that is checked is decoded where validate accepts it (R143). -/
theorem decodeLoaded_checked {s : State} (h : s.checkEn = true) (n : Nat) (dec : Memory → Result) :
    decodeLoaded n dec s =
      ((validate (s.fb.frame n) s).bind fun _ t => .ok (dec t.fb) t).mapState (dropWorking n true) := by
  simp [decodeLoaded, checkLoaded, h]

/-- Six loaded bytes with good checksums, or not checked, are decoded as they were read (R124, R125, R143). -/
theorem decodeLoaded_six_ok {s : State} {b0 b1 b2 b3 b4 b5 : Byte} (dec : Memory → Result)
    (h : s.checkEn = true → crc8 [b0, b1] 0xFF 0x31 = b2 ∧ crc8 [b3, b4] 0xFF 0x31 = b5) :
    ∃ a, decodeLoaded 6 dec (s.loadFrame [b0, b1, b2, b3, b4, b5]) =
        .ok (dec (s.fb.storeFrame [b0, b1, b2, b3, b4, b5]))
          (dropWorking 6 s.checkEn ((s.loadFrame [b0, b1, b2, b3, b4, b5]).setAcc a)) ∧
      (s.checkEn = false → a = s.acc) := by
  cases hc : s.checkEn with
  | false =>
    refine ⟨s.acc, ?_, fun _ => rfl⟩
    rw [decodeLoaded_unchecked (by simpa using hc)]
    rfl
  | true =>
    obtain ⟨h1, h2⟩ := h hc
    refine ⟨b5, ?_, fun h => by simp at h⟩
    rw [decodeLoaded_checked (by simpa using hc), State.loadFrame_fb, Memory.frame_storeFrame_six, validate_six,
      checkSubFrame_good h1, Flow.bind_ok, checkSubFrame_good h2]
    rfl

/-- Six loaded bytes with a bad checksum end the operation, the sub-frame at offset 0 before the one at 3 (R143). -/
theorem decodeLoaded_six_bad {s : State} {b0 b1 b2 b3 b4 b5 : Byte} (dec : Memory → Result) (hc : s.checkEn = true)
    (h : ¬ (b2 = crc8 [b0, b1] 0xFF 0x31 ∧ b5 = crc8 [b3, b4] 0xFF 0x31)) :
    ∃ a, decodeLoaded 6 dec (s.loadFrame [b0, b1, b2, b3, b4, b5]) =
        .raise
          (if b2 = crc8 [b0, b1] 0xFF 0x31 then .dataCorruption (crc8 [b3, b4] 0xFF 0x31) b5 .second
          else .dataCorruption (crc8 [b0, b1] 0xFF 0x31) b2 .first)
          (dropWorking 6 true ((s.loadFrame [b0, b1, b2, b3, b4, b5]).setAcc a)) := by
  rw [decodeLoaded_checked (by simpa using hc), State.loadFrame_fb, Memory.frame_storeFrame_six, validate_six]
  by_cases h1 : b2 = crc8 [b0, b1] 0xFF 0x31
  · have h2 : crc8 [b3, b4] 0xFF 0x31 ≠ b5 := fun e => h ⟨h1, e.symm⟩
    rw [if_pos h1, checkSubFrame_good h1.symm, Flow.bind_ok, checkSubFrame_bad h2]
    exact ⟨_, rfl⟩
  · rw [if_neg h1, checkSubFrame_bad (Ne.symm h1)]
    exact ⟨_, rfl⟩

/-- Three loaded bytes with a good checksum, or not checked, are decoded as they were read (R126, R143). -/
theorem decodeLoaded_three_ok {s : State} {b0 b1 b2 : Byte} (dec : Memory → Result)
    (h : s.checkEn = true → crc8 [b0, b1] 0xFF 0x31 = b2) :
    ∃ a, decodeLoaded 3 dec (s.loadFrame [b0, b1, b2]) =
        .ok (dec (s.fb.storeFrame [b0, b1, b2]))
          (dropWorking 3 s.checkEn ((s.loadFrame [b0, b1, b2]).setAcc a)) ∧
      (s.checkEn = false → a = s.acc) := by
  cases hc : s.checkEn with
  | false =>
    refine ⟨s.acc, ?_, fun _ => rfl⟩
    rw [decodeLoaded_unchecked (by simpa using hc)]
    rfl
  | true =>
    refine ⟨b2, ?_, fun h => by simp at h⟩
    rw [decodeLoaded_checked (by simpa using hc), State.loadFrame_fb, Memory.frame_storeFrame_three, validate_three,
      checkSubFrame_good (h hc)]
    rfl

/-- Three loaded bytes with a bad checksum end the operation (R143). -/
theorem decodeLoaded_three_bad {s : State} {b0 b1 b2 : Byte} (dec : Memory → Result) (hc : s.checkEn = true)
    (h : b2 ≠ crc8 [b0, b1] 0xFF 0x31) :
    decodeLoaded 3 dec (s.loadFrame [b0, b1, b2]) =
      .raise (.dataCorruption (crc8 [b0, b1] 0xFF 0x31) b2 .first)
        (dropWorking 3 true ((s.loadFrame [b0, b1, b2]).setAcc (crc8 [b0, b1] 0xFF 0x31))) := by
  rw [decodeLoaded_checked (by simpa using hc), State.loadFrame_fb, Memory.frame_storeFrame_three, validate_three,
    checkSubFrame_bad (Ne.symm h)]
  rfl

/-! ### Everything a command and a readout can do -/

/-- The three ways a send_cmd can go (R80, R187). -/
theorem sendCmd_cases (w : Half) (s : State) :
    (∃ b, s.nextAnswer = .returned b ∧
      sendCmd w s = .ok () (s.dropAnswer.logEvent (.write s.params.devAddr (commandBytes w)))) ∨
    (s.nextAnswer = .failed ∧
      sendCmd w s = .raise (.transportFailure .write) (s.dropAnswer.logEvent (.failed .write))) ∨
    (s.nextAnswer = .never ∧ sendCmd w s = .hang s.dropAnswer) := by
  cases h : s.nextAnswer with
  | returned b => exact .inl ⟨b, rfl, sendCmd_returned h w⟩
  | failed => exact .inr (.inl ⟨rfl, sendCmd_failed h w⟩)
  | never => exact .inr (.inr ⟨rfl, sendCmd_never h w⟩)

/-- The three ways an operation of one command can go (R80, R86, R187). -/
theorem sendThen_cases (w : Half) (rest : State → State) (s : State) :
    (∃ b, s.nextAnswer = .returned b ∧
      sendThen w rest s =
        .ok .nothing (rest (s.dropAnswer.logEvent (.write s.params.devAddr (commandBytes w))))) ∨
    (s.nextAnswer = .failed ∧
      sendThen w rest s = .raise (.transportFailure .write) (s.dropAnswer.logEvent (.failed .write))) ∨
    (s.nextAnswer = .never ∧ sendThen w rest s = .hang s.dropAnswer) := by
  cases h : s.nextAnswer with
  | returned b => exact .inl ⟨b, rfl, sendThen_returned h w rest⟩
  | failed => exact .inr (.inl ⟨rfl, sendThen_failed h w rest⟩)
  | never => exact .inr (.inr ⟨rfl, sendThen_never h w rest⟩)

/-- The state in which the bytes of a read have been logged and loaded (R32). -/
def afterRead (n : Nat) (b : Bytes6) (s : State) : State :=
  (s.dropAnswer.logEvent (.read s.params.devAddr 0 n (firstBytes n b))).loadFrame (firstBytes n b)

/-- The four ways a readout can go: a result, a corrupted frame (only if CHECK_EN = 1), a failed read, no return
(R32, R143, R187). In the first two the working registers hold any values after it. -/
theorem readout_cases {n : Nat} (hn : n = 3 ∨ n = 6) (dec : Memory → Result) (s : State) :
    (∃ b a, s.nextAnswer = .returned b ∧
      readout n dec s =
        .ok (dec (s.fb.storeFrame (firstBytes n b))) (dropWorking n s.checkEn ((afterRead n b s).setAcc a))) ∨
    (∃ b a c e place, s.nextAnswer = .returned b ∧ s.checkEn = true ∧
      readout n dec s =
        .raise (.dataCorruption c e place) (dropWorking n true ((afterRead n b s).setAcc a))) ∨
    (s.nextAnswer = .failed ∧
      readout n dec s = .raise (.transportFailure .read) (s.dropAnswer.logEvent (.failed .read))) ∨
    (s.nextAnswer = .never ∧ readout n dec s = .hang s.dropAnswer) := by
  cases h : s.nextAnswer with
  | failed => exact .inr (.inr (.inl ⟨rfl, readout_failed h n dec⟩))
  | never => exact .inr (.inr (.inr ⟨rfl, readout_never h n dec⟩))
  | returned b =>
    rw [readout_returned h]
    rcases hn with rfl | rfl
    · by_cases hg : s.checkEn = true → crc8 [b.b0, b.b1] 0xFF 0x31 = b.b2
      · obtain ⟨a, ha, -⟩ := decodeLoaded_three_ok
          (s := s.dropAnswer.logEvent (.read s.params.devAddr 0 3 (firstBytes 3 b))) dec hg
        exact .inl ⟨b, a, rfl, ha⟩
      · obtain ⟨hc, hb⟩ := Classical.not_imp.mp hg
        exact .inr (.inl ⟨b, _, _, _, _, rfl, hc, decodeLoaded_three_bad
          (s := s.dropAnswer.logEvent (.read s.params.devAddr 0 3 (firstBytes 3 b))) dec hc (Ne.symm hb)⟩)
    · by_cases hg : s.checkEn = true → crc8 [b.b0, b.b1] 0xFF 0x31 = b.b2 ∧ crc8 [b.b3, b.b4] 0xFF 0x31 = b.b5
      · obtain ⟨a, ha, -⟩ := decodeLoaded_six_ok
          (s := s.dropAnswer.logEvent (.read s.params.devAddr 0 6 (firstBytes 6 b))) dec hg
        exact .inl ⟨b, a, rfl, ha⟩
      · obtain ⟨hc, hb⟩ := Classical.not_imp.mp hg
        obtain ⟨a, ha⟩ := decodeLoaded_six_bad
          (s := s.dropAnswer.logEvent (.read s.params.devAddr 0 6 (firstBytes 6 b))) dec hc
          (fun ⟨h1, h2⟩ => hb ⟨h1.symm, h2.symm⟩)
        right; left
        by_cases h1 : b.b2 = crc8 [b.b0, b.b1] 0xFF 0x31
        · rw [if_pos h1] at ha
          exact ⟨b, a, _, _, _, rfl, hc, ha⟩
        · rw [if_neg h1] at ha
          exact ⟨b, a, _, _, _, rfl, hc, ha⟩

section
variable (n : Nat) (b : Bytes6) (s : State)

@[simp] theorem afterRead_mode : (afterRead n b s).mode = s.mode := rfl
@[simp] theorem afterRead_rep : (afterRead n b s).rep = s.rep := rfl
@[simp] theorem afterRead_rate : (afterRead n b s).rate = s.rate := rfl
@[simp] theorem afterRead_checkEn : (afterRead n b s).checkEn = s.checkEn := rfl
@[simp] theorem afterRead_params : (afterRead n b s).params = s.params := rfl
@[simp] theorem afterRead_inbox : (afterRead n b s).inbox = s.inbox := rfl
@[simp] theorem afterRead_answers : (afterRead n b s).answers = s.answers.tail := rfl
@[simp] theorem afterRead_seq : (afterRead n b s).seq = s.seq := rfl
@[simp] theorem afterRead_fb : (afterRead n b s).fb = s.fb.storeFrame (firstBytes n b) := rfl
@[simp] theorem afterRead_events :
    (afterRead n b s).events = s.events ++ [.read s.params.devAddr 0 n (firstBytes n b)] := rfl

end

/-! ### What discarding the working registers leaves alone -/

section
variable (n : Nat) (c : Bool) (s : State)

@[simp] theorem dropWorking_mode : (dropWorking n c s).mode = s.mode := by cases c <;> rfl
@[simp] theorem dropWorking_rep : (dropWorking n c s).rep = s.rep := by cases c <;> rfl
@[simp] theorem dropWorking_rate : (dropWorking n c s).rate = s.rate := by cases c <;> rfl
@[simp] theorem dropWorking_checkEn : (dropWorking n c s).checkEn = s.checkEn := by cases c <;> rfl
@[simp] theorem dropWorking_params : (dropWorking n c s).params = s.params := by cases c <;> rfl
@[simp] theorem dropWorking_events : (dropWorking n c s).events = s.events := by cases c <;> rfl
@[simp] theorem dropWorking_answers : (dropWorking n c s).answers = s.answers := by cases c <;> rfl
@[simp] theorem dropWorking_inbox : (dropWorking n c s).inbox = s.inbox := by cases c <;> rfl
@[simp] theorem dropWorking_rsp : (dropWorking n c s).rsp = s.rsp := by cases c <;> rfl
@[simp] theorem dropWorking_seq : (dropWorking n c s).seq = s.seq := by cases c <;> rfl
@[simp] theorem dropWorking_false_acc : (dropWorking n false s).acc = s.acc := rfl

theorem read_dropWorking_of_le {i : Fin 6} (h : n ≤ i.val) : (dropWorking n c s).fb.read i = s.fb.read i := by
  cases c <;> exact State.read_dropFrame_of_le _ h

theorem wf_dropWorking (h : s.fb.wf = true) : (dropWorking n c s).fb.wf = true := by
  cases c <;> exact Memory.wf_storeFrame h _

end

/-! ### The checksum, one element at a time -/

@[simp] theorem crc8_nil (seed poly : Byte) : crc8 [] seed poly = seed := rfl

theorem crc8_cons (b : Byte) (rest : List Byte) (seed poly : Byte) :
    crc8 (b :: rest) seed poly = crc8 rest (crc8Byte seed b poly) poly := rfl

end Sys2Proof.Machine
end

