-- ==== Sys2Proof/Laws/PerInstr.lean ====
section
/-! SUPPORT. Statements made of every instruction, one lemma per constructor: its encoding has the bits that its row
of spec/opcode_table.json fixes. -/

namespace Sys2Proof.Laws.EncodingPattern

/-- The width and the fixed bits of the instruction's row: match, under the format's mask (0xFF000000 for a request,
R64; all sixteen bits for a command word). -/
def row : Instr → Nat × BitVec 32
  | .crc8 _ _ _ => (32, 0x10000000)
  | .validate _ => (32, 0x20000000)
  | .startSs _ => (32, 0x30000000)
  | .startPer _ _ => (32, 0x40000000)
  | .getCycle _ => (32, 0x50000000)
  | .readMeas => (32, 0x60000000)
  | .iterNext => (32, 0x70000000)
  | .getId => (32, 0x80000000)
  | .getStatus => (32, 0x90000000)
  | .softReset => (32, 0xA0000000)
  | .setHeater _ => (32, 0xB0000000)
  | .sendBreak => (32, 0xC0000000)
  | .cmdFetch => (16, 0xE000)
  | .cmdReadId => (16, 0x3682)
  | .cmdReadStatus => (16, 0xF32D)
  | .cmdSoftReset => (16, 0x30A2)
  | .cmdHeaterOn => (16, 0x306D)
  | .cmdHeaterOff => (16, 0x3066)
  | .cmdBreak => (16, 0x3093)
  | .cmdSsLow => (16, 0x2416)
  | .cmdSsMedium => (16, 0x240B)
  | .cmdSsHigh => (16, 0x2400)
  | .cmdPerHz05Low => (16, 0x202F)
  | .cmdPerHz05Medium => (16, 0x2024)
  | .cmdPerHz05High => (16, 0x2032)
  | .cmdPerHz1Low => (16, 0x212D)
  | .cmdPerHz1Medium => (16, 0x2126)
  | .cmdPerHz1High => (16, 0x2130)
  | .cmdPerHz2Low => (16, 0x222B)
  | .cmdPerHz2Medium => (16, 0x2220)
  | .cmdPerHz2High => (16, 0x2236)
  | .cmdPerHz4Low => (16, 0x2329)
  | .cmdPerHz4Medium => (16, 0x2322)
  | .cmdPerHz4High => (16, 0x2334)
  | .cmdPerHz10Low => (16, 0x272A)
  | .cmdPerHz10Medium => (16, 0x2721)
  | .cmdPerHz10High => (16, 0x2737)

/-- The width of an input and its bits under the mask of its format. -/
def fixedBits : Input → Nat × BitVec 32
  | .request w _ => (32, w &&& 0xFF000000)
  | .command w => (16, w.setWidth 32)

/-- The encoding has the width and the fixed bits of the row. -/
def Statement (i : Instr) : Prop := fixedBits (encode i) = row i

/-- The fixed bits of a request word are its operation code alone. -/
theorem packRequest_fixed (op : BitVec 4) (a b : Byte) (hi lo : BitVec 4) :
    packRequest op a b hi lo &&& 0xFF000000 = op ++ 0#28 := by
  apply BitVec.eq_of_getLsbD_eq
  intro i hi'
  simp only [packRequest, BitVec.getLsbD_and, BitVec.getLsbD_append]
  interval_cases i <;> simp

theorem crc8 (seed poly : Byte) (din : List Byte) : Statement (.crc8 seed poly din) := congrArg (Prod.mk 32) (packRequest_fixed ..)

theorem validate (din : List Byte) : Statement (.validate din) := congrArg (Prod.mk 32) (packRequest_fixed ..)

theorem startSs (rep : Nat) : Statement (.startSs rep) := congrArg (Prod.mk 32) (packRequest_fixed ..)

theorem startPer (rep rate : Nat) : Statement (.startPer rep rate) := congrArg (Prod.mk 32) (packRequest_fixed ..)

theorem getCycle (preferMin : Bool) : Statement (.getCycle preferMin) := congrArg (Prod.mk 32) (packRequest_fixed ..)

theorem readMeas : Statement .readMeas := congrArg (Prod.mk 32) (packRequest_fixed ..)

theorem iterNext : Statement .iterNext := congrArg (Prod.mk 32) (packRequest_fixed ..)

theorem getId : Statement .getId := congrArg (Prod.mk 32) (packRequest_fixed ..)

theorem getStatus : Statement .getStatus := congrArg (Prod.mk 32) (packRequest_fixed ..)

theorem softReset : Statement .softReset := congrArg (Prod.mk 32) (packRequest_fixed ..)

theorem setHeater (on : Bool) : Statement (.setHeater on) := congrArg (Prod.mk 32) (packRequest_fixed ..)

theorem sendBreak : Statement .sendBreak := congrArg (Prod.mk 32) (packRequest_fixed ..)

theorem cmdFetch : Statement .cmdFetch := rfl

theorem cmdReadId : Statement .cmdReadId := rfl

theorem cmdReadStatus : Statement .cmdReadStatus := rfl

theorem cmdSoftReset : Statement .cmdSoftReset := rfl

theorem cmdHeaterOn : Statement .cmdHeaterOn := rfl

theorem cmdHeaterOff : Statement .cmdHeaterOff := rfl

theorem cmdBreak : Statement .cmdBreak := rfl

theorem cmdSsLow : Statement .cmdSsLow := rfl

theorem cmdSsMedium : Statement .cmdSsMedium := rfl

theorem cmdSsHigh : Statement .cmdSsHigh := rfl

theorem cmdPerHz05Low : Statement .cmdPerHz05Low := rfl

theorem cmdPerHz05Medium : Statement .cmdPerHz05Medium := rfl

theorem cmdPerHz05High : Statement .cmdPerHz05High := rfl

theorem cmdPerHz1Low : Statement .cmdPerHz1Low := rfl

theorem cmdPerHz1Medium : Statement .cmdPerHz1Medium := rfl

theorem cmdPerHz1High : Statement .cmdPerHz1High := rfl

theorem cmdPerHz2Low : Statement .cmdPerHz2Low := rfl

theorem cmdPerHz2Medium : Statement .cmdPerHz2Medium := rfl

theorem cmdPerHz2High : Statement .cmdPerHz2High := rfl

theorem cmdPerHz4Low : Statement .cmdPerHz4Low := rfl

theorem cmdPerHz4Medium : Statement .cmdPerHz4Medium := rfl

theorem cmdPerHz4High : Statement .cmdPerHz4High := rfl

theorem cmdPerHz10Low : Statement .cmdPerHz10Low := rfl

theorem cmdPerHz10Medium : Statement .cmdPerHz10Medium := rfl

theorem cmdPerHz10High : Statement .cmdPerHz10High := rfl

end Sys2Proof.Laws.EncodingPattern
end

