-- ==== Sys2Proof/Tests/Slice0.lean ====
section
/-! SUPPORT. The model's own tests: expected values are the spec's (spec/95_test_vectors.md, the encodings of
spec/30_encoding.md and of the opcode table), and one witness for every statement that has hypotheses. -/

namespace Sys2Proof.Machine.Tests

/-! ### Well-formedness -/

theorem test_wellFormed_refuses_startSs_16 : (Instr.startSs 16).WellFormed = false := by decide
theorem test_wellFormed_refuses_startPer_rep_16 : (Instr.startPer 16 0).WellFormed = false := by decide
theorem test_wellFormed_refuses_startPer_rate_16 : (Instr.startPer 0 16).WellFormed = false := by decide
theorem test_wellFormed_accepts_the_largest_selectors :
    (Instr.startSs 15).WellFormed = true ∧ (Instr.startPer 15 15).WellFormed = true := by decide

/-! ### Decoding: words written bit by bit from the encodings (R51, R52, R64; WIRE16 rows) -/

theorem test_decode_crc8 :
    decodeTableWord 32 0b0001_0000_10110001_01000111_11111111 = some (.crc8 0xB1 0x47 []) := by decide
theorem test_decode_validate : decodeTableWord 32 0b0010_0000_00000000_00000000_00000000 = some (.validate []) := by
  decide
theorem test_decode_startSs : decodeTableWord 32 0b0011_0000_11111111_11111111_1111_1101 = some (.startSs 13) := by
  decide
theorem test_decode_startPer :
    decodeTableWord 32 0b0100_0000_00000000_11111111_0100_0010 = some (.startPer 2 4) := by decide
theorem test_decode_getCycle :
    decodeTableWord 32 0b0101_0000_00000000_00000000_0000_0001 = some (.getCycle true) ∧
    decodeTableWord 32 0b0101_0000_11111111_11111111_1111_1110 = some (.getCycle false) := by decide
theorem test_decode_readouts :
    decodeTableWord 32 0b0110_0000_00000000_00000000_00000000 = some .readMeas ∧
    decodeTableWord 32 0b0111_0000_00000000_00000000_00000000 = some .iterNext ∧
    decodeTableWord 32 0b1000_0000_00000000_00000000_00000000 = some .getId ∧
    decodeTableWord 32 0b1001_0000_00000000_00000000_00000000 = some .getStatus := by decide
theorem test_decode_noOperand :
    decodeTableWord 32 0b1010_0000_00000000_00000000_00000000 = some .softReset ∧
    decodeTableWord 32 0b1100_0000_00000000_00000000_00000000 = some .sendBreak := by decide
theorem test_decode_setHeater :
    decodeTableWord 32 0b1011_0000_00000000_00000000_0000_0001 = some (.setHeater true) ∧
    decodeTableWord 32 0b1011_0000_00000000_00000000_0000_1110 = some (.setHeater false) := by decide
theorem test_decode_payload_kept_and_dropped :
    decode (.request 0x20000000 [1, 2]) = .ok (.validate [1, 2]) ∧
    decode (.request 0x80000000 [1, 2]) = .ok .getId := by decide
theorem test_decode_reserved :
    decode (.request 0x00000000 []) = .error .reservedOp ∧ decode (.request 0xD0000000 []) = .error .reservedOp ∧
    decode (.request 0xE0000000 []) = .error .reservedOp ∧ decode (.request 0xF0000000 []) = .error .reservedOp ∧
    decode (.request 0x31000002 []) = .error .reservedField ∧
    decode (.request 0x18FF3100 []) = .error .reservedField ∧ decode (.command 0xE001) = .error .notACommandWord := by
  decide

theorem test_decode_fixedCommands :
    decodeTableWord 16 0b1110_0000_0000_0000 = some .cmdFetch ∧
    decodeTableWord 16 0b0011_0110_1000_0010 = some .cmdReadId ∧
    decodeTableWord 16 0b1111_0011_0010_1101 = some .cmdReadStatus ∧
    decodeTableWord 16 0b0011_0000_1010_0010 = some .cmdSoftReset ∧
    decodeTableWord 16 0b0011_0000_0110_1101 = some .cmdHeaterOn ∧
    decodeTableWord 16 0b0011_0000_0110_0110 = some .cmdHeaterOff ∧
    decodeTableWord 16 0b0011_0000_1001_0011 = some .cmdBreak := by decide
theorem test_decode_singleShotCommands :
    decodeTableWord 16 0b0010_0100_0001_0110 = some .cmdSsLow ∧
    decodeTableWord 16 0b0010_0100_0000_1011 = some .cmdSsMedium ∧
    decodeTableWord 16 0b0010_0100_0000_0000 = some .cmdSsHigh := by decide
theorem test_decode_periodicCommands :
    decodeTableWord 16 0b0010_0000_0010_1111 = some .cmdPerHz05Low ∧
    decodeTableWord 16 0b0010_0000_0010_0100 = some .cmdPerHz05Medium ∧
    decodeTableWord 16 0b0010_0000_0011_0010 = some .cmdPerHz05High ∧
    decodeTableWord 16 0b0010_0001_0010_1101 = some .cmdPerHz1Low ∧
    decodeTableWord 16 0b0010_0001_0010_0110 = some .cmdPerHz1Medium ∧
    decodeTableWord 16 0b0010_0001_0011_0000 = some .cmdPerHz1High ∧
    decodeTableWord 16 0b0010_0010_0010_1011 = some .cmdPerHz2Low ∧
    decodeTableWord 16 0b0010_0010_0010_0000 = some .cmdPerHz2Medium ∧
    decodeTableWord 16 0b0010_0010_0011_0110 = some .cmdPerHz2High ∧
    decodeTableWord 16 0b0010_0011_0010_1001 = some .cmdPerHz4Low ∧
    decodeTableWord 16 0b0010_0011_0010_0010 = some .cmdPerHz4Medium ∧
    decodeTableWord 16 0b0010_0011_0011_0100 = some .cmdPerHz4High ∧
    decodeTableWord 16 0b0010_0111_0010_1010 = some .cmdPerHz10Low ∧
    decodeTableWord 16 0b0010_0111_0010_0001 = some .cmdPerHz10Medium ∧
    decodeTableWord 16 0b0010_0111_0011_0111 = some .cmdPerHz10High := by decide

/-! ### A small state, and what one step of it gives -/

/-- The settings of the tests: a made-up device address and the default PER_CMD, which the vectors assume. -/
def settings : Params := { devAddr := 0x44, perCmd := perCmdDefault }

/-- Another PER_CMD, so that a test sees which table is used. -/
def otherTable : PerTable :=
  { perCmdDefault with hz4 := { first := 0xA1, second := { low := 0xB1, medium := 0xB2, high := 0xB3 } } }

/-- The state (MODE, REP, RATE, CHECK_EN) of spec/95_test_vectors.md, with a transport script. -/
def inState (mode : Mode) (rep : Option Rep) (rate : Option Rate) (checkEn : Bool) (answers : List Answer) : State :=
  { State.resetWith checkEn settings with mode := mode, rep := rep, rate := rate, answers := answers }

/-- The same with a request pending. -/
def asked (s : State) (w : ReqWord) (din : List Byte) : State := { s with inbox := [.request w din] }

/-- One step leads to a next state that passes the check. -/
def yields (s : State) (check : State → Bool) : Bool :=
  match step s with
  | .next t => check t
  | .fault _ => false
  | .refused _ => false

/-- A write that succeeds; its bytes are not looked at. -/
def done : Answer := .returned default

/-- The six bytes of a read. -/
def bytes6 (b0 b1 b2 b3 b4 b5 : Byte) : Answer := .returned ⟨b0, b1, b2, b3, b4, b5⟩

/-- STATUS and INFO of the response. -/
def failedWith (t : State) (status : Status) (info : Info) : Bool :=
  decide (t.rsp.status = status) && decide (t.rsp.info = info)

/-- MODE, REP and RATE. -/
def modeIs (t : State) (mode : Mode) (rep : Option Rep) (rate : Option Rate) : Bool :=
  decide (t.mode = mode) && decide (t.rep = rep) && decide (t.rate = rate)

/-! ### CRC8 and VALIDATE -/

/-- S1. -/
theorem test_crc8_reference :
    yields (asked (inState .idle none none false []) 0x10FF3100 [0x01, 0x02, 0x03])
      (fun t => decide (t.rsp.status = .ok) && decide (t.rsp.r0 = 0x87) && decide (t.events = [])) = true := by
  decide +kernel

/-- V-CRC-14: the polynomial is an operand. -/
theorem test_crc8_other_polynomial :
    yields (asked (inState .idle none none false []) 0x10FF0700 [0x01, 0x02, 0x03])
      (fun t => decide (t.rsp.r0 = 0x63)) = true := by
  decide +kernel

/-- V-CRC-1, V-CRC-5, V-CRC-10, V-CRC-13, V-CRC-16. -/
theorem test_crc8_vectors :
    crc8 [] 0xFF 0x31 = 0xFF ∧ crc8 [0xFF] 0xFF 0x31 = 0x00 ∧
    crc8 [0x31, 0x32, 0x33, 0x34, 0x35, 0x36, 0x37, 0x38, 0x39] 0xFF 0x31 = 0xF7 ∧
    crc8 [0x01, 0x02, 0x03] 0x00 0x31 = 0xCC ∧ crc8 (payloadOf [0x101, 0x202, 0x303]) 0xFF 0x31 = 0x87 := by
  decide +kernel

/-- V-VAL-4: the second sub-frame is bad, and CHECK_EN = 0 does not matter. -/
theorem test_validate_second_bad :
    yields (asked (inState .idle none none false []) 0x20000000 [0x00, 0x00, 0x81, 0x00, 0x00, 0x80])
      (fun t => failedWith t .dataCorruption 0x038081) = true := by
  decide +kernel

/-- V-VAL-10: a length of 4, its good leading sub-frame not being checked. -/
theorem test_validate_length :
    yields (asked (inState .idle none none true []) 0x20000000 [0xBE, 0xEF, 0x92, 0x00])
      (fun t => failedWith t .invalidArgument 0x000003 && decide (t.flen = 0)) = true := by
  decide +kernel

/-! ### The acquisition mode -/

/-- V-CMD-12. -/
theorem test_startSs_ignored_fields :
    yields (asked (inState .idle none none true [done]) 0x30FFFFF2 [])
      (fun t => decide (t.rsp.status = .ok) && modeIs t .singleShot (some .high) none &&
        decide (t.events = [.write 0x44 [0x24, 0x00]])) = true := by
  decide +kernel

/-- V-ACQ-12. -/
theorem test_startSs_out_of_range :
    yields (asked (inState .periodic (some .low) (some .hz2) true []) 0x3000000F [])
      (fun t => failedWith t .invalidArgument 0x000001 && modeIs t .periodic (some .low) (some .hz2) &&
        decide (t.events = [])) = true := by
  decide +kernel

/-- P2, request 1. -/
theorem test_startPer_sends_its_word :
    yields (asked (inState .idle none none true [done]) 0x40000011 [])
      (fun t => decide (t.rsp.status = .ok) && modeIs t .periodic (some .medium) (some .hz1) &&
        decide (t.events = [.write 0x44 [0x21, 0x26]])) = true := by
  decide +kernel

/-- V-ACQ-11: the repeatability is checked first. -/
theorem test_startPer_checks_repeatability_first :
    yields (asked (inState .idle none none true []) 0x40000053 [])
      (fun t => failedWith t .invalidArgument 0x000001) = true := by
  decide +kernel

/-- P1, request 3, and V-ACQ-5: the minimum for single shot, the period for periodic. -/
theorem test_getCycle_times :
    yields (asked (inState .singleShot (some .high) none true []) 0x50000001 [])
      (fun t => decide (t.rsp.r0 = 12500)) = true ∧
    yields (asked (inState .periodic (some .medium) (some .hz1) true []) 0x50000001 [])
      (fun t => decide (t.rsp.r0 = 1000000)) = true := by
  decide +kernel

/-- P2, request 7. -/
theorem test_getCycle_idle :
    yields (asked (inState .idle (some .medium) (some .hz1) true []) 0x50000000 [])
      (fun t => failedWith t .unsupportedOperation 0x000000) = true := by
  decide +kernel

/-- V-ACQ-16, first part: SOFT_RESET from Periodic. -/
theorem test_softReset_returns_to_idle :
    yields (asked (inState .periodic (some .medium) (some .hz1) true [done]) 0xA0000000 [])
      (fun t => decide (t.rsp.status = .ok) && decide (t.mode = .idle) &&
        decide (t.events = [.write 0x44 [0x30, 0xA2]])) = true := by
  decide +kernel

/-- V-ACQ-18: a BREAK whose write fails stays in Periodic. -/
theorem test_sendBreak_failed_write :
    yields (asked (inState .periodic (some .medium) (some .hz1) true [.failed]) 0xC0000000 [])
      (fun t => failedWith t .transportFailure 0x000001 && modeIs t .periodic (some .medium) (some .hz1) &&
        decide (t.events = [.failed .write])) = true := by
  decide +kernel

/-- V-CMD-3. -/
theorem test_setHeater_looks_at_bit_0_only :
    yields (asked (inState .idle none none true [done]) 0xB000000F [])
      (fun t => decide (t.rsp.status = .ok) && decide (t.events = [.write 0x44 [0x30, 0x6D]])) = true := by
  decide +kernel

/-! ### The readouts -/

/-- P1, request 5. -/
theorem test_readMeas_single_shot :
    yields (asked (inState .singleShot (some .high) none true [bytes6 0x66 0x66 0x93 0x66 0x66 0x93]) 0x60000000 [])
      (fun t => decide (t.rsp.status = .ok) && decide (t.rsp.r0 = 0x16BCC41E9800) &&
        decide (t.rsp.r1 = 0x246139CAA1D4) &&
        decide (t.events = [.read 0x44 0x00 6 [0x66, 0x66, 0x93, 0x66, 0x66, 0x93]])) = true := by
  decide +kernel

/-- P6, request 1: in Idle, with the check off. -/
theorem test_readMeas_idle_unchecked :
    yields (asked (inState .idle none none false [bytes6 0xFF 0xFF 0x00 0xFF 0xFF 0x00]) 0x60000000 [])
      (fun t => decide (t.rsp.status = .ok) && decide (t.rsp.r0 = 0x763BFBD23400) &&
        decide (t.rsp.r1 = 0x5AF3107A9492)) = true := by
  decide +kernel

/-- P2, request 4: the last byte is corrupted. -/
theorem test_next_corrupted :
    yields (asked (inState .periodic (some .medium) (some .hz1) true
        [done, bytes6 0x64 0x8B 0xC7 0x80 0x00 0xA3]) 0x70000000 [])
      (fun t => failedWith t .dataCorruption 0x03A3A2 && modeIs t .periodic (some .medium) (some .hz1) &&
        decide (t.events = [.write 0x44 [0xE0, 0x00], .read 0x44 0x00 6 [0x64, 0x8B, 0xC7, 0x80, 0x00, 0xA3]])) =
      true := by
  decide +kernel

/-- P1, request 6. -/
theorem test_next_outside_periodic :
    yields (asked (inState .singleShot (some .high) none true []) 0x70000000 [])
      (fun t => failedWith t .unsupportedOperation 0x000001 && decide (t.events = [])) = true := by
  decide +kernel

/-- V-RD-8. -/
theorem test_getId :
    yields (asked (inState .idle none none true [done, bytes6 0x12 0x34 0x37 0x56 0x78 0x7D]) 0x80000000 [])
      (fun t => decide (t.rsp.r0 = 0x000012345678) &&
        decide (t.events = [.write 0x44 [0x36, 0x82], .sleep 500,
          .read 0x44 0x00 6 [0x12, 0x34, 0x37, 0x56, 0x78, 0x7D]])) = true := by
  decide +kernel

/-- V-RD-13. -/
theorem test_getId_failed_read :
    yields (asked (inState .idle none none true [done, .failed]) 0x80000000 [])
      (fun t => failedWith t .transportFailure 0x000002 &&
        decide (t.events = [.write 0x44 [0x36, 0x82], .sleep 500, .failed .read])) = true := by
  decide +kernel

/-- V-RD-9: three bytes are read. -/
theorem test_getStatus :
    yields (asked (inState .idle none none true [done, bytes6 0x80 0x10 0xE1 0 0 0]) 0x90000000 [])
      (fun t => decide (t.rsp.r0 = 0x8010) &&
        decide (t.events = [.write 0x44 [0xF3, 0x2D], .sleep 500, .read 0x44 0x00 3 [0x80, 0x10, 0xE1]])) = true := by
  decide +kernel

/-- V-RD-10. -/
theorem test_getStatus_corrupted :
    yields (asked (inState .idle none none true [done, bytes6 0x80 0x10 0xE0 0 0 0]) 0x90000000 [])
      (fun t => failedWith t .dataCorruption 0x00E0E1) = true := by
  decide +kernel

/-- V-RD-1 to V-RD-7, temperature. -/
theorem test_tPico :
    tPico 0x0000 = 0xD7129EFC3000 ∧ tPico 0x0001 = 0xD7133E262C00 ∧ tPico 0x41D3 = 0xFFFF7792E400 ∧
    tPico 0x41D4 = 0x000016BCE000 ∧ tPico 0x6666 = 0x16BCC41E9800 ∧ tPico 0x8000 = 0x26A79CFC3000 ∧
    tPico 0xFFFF = 0x763BFBD23400 := by
  decide +kernel

/-- V-RD-1 to V-RD-7, humidity. -/
theorem test_rhPico :
    rhPico 0x0000 = 0x000000000000 ∧ rhPico 0x0001 = 0x00005AF36B6E ∧ rhPico 0x41D3 = 0x1762C4E879AA ∧
    rhPico 0x41D4 = 0x17631FDBE518 ∧ rhPico 0x6666 = 0x246139CAA1D4 ∧ rhPico 0x8000 = 0x2D79B5B70000 ∧
    rhPico 0xFFFF = 0x5AF3107A9492 := by
  decide +kernel

/-! ### Command words, reserved requests, a call that never returns -/

/-- R80, R81. -/
theorem test_command_fetch :
    yields { inState .idle none none true [done] with inbox := [.command 0xE000] }
      (fun t => decide (t.events = [.write 0x44 [0xE0, 0x00]]) && decide (t.rsp = Response.reset)) = true := by
  decide +kernel

/-- R83: a periodic word is sent from the table the block holds. -/
theorem test_command_periodic_from_the_table :
    yields { inState .idle none none true [done] with
        params := { settings with perCmd := otherTable }, inbox := [.command 0x2322] }
      (fun t => decide (t.events = [.write 0x44 [0xA1, 0xB2]])) = true := by
  decide +kernel

/-- V-CMD-9, V-CMD-10. -/
theorem test_reserved_requests :
    yields (asked (inState .periodic (some .low) (some .hz2) true []) 0x00000000 [])
      (fun t => decide (t.rsp.status = .illegalRequest) && modeIs t .periodic (some .low) (some .hz2)) = true ∧
    yields (asked (inState .idle none none true []) 0x31000002 [])
      (fun t => decide (t.rsp.status = .illegalRequest) && decide (t.events = [])) = true := by
  decide +kernel

/-- R84: the block never sends another word. -/
theorem test_unknown_command_refused (s : State) (h : s.seq = .idle) (hi : s.inbox = [.command 0xE001]) :
    step s = .refused (.notACommandWord 0xE001) := by
  simp only [step, h, hi]
  rfl

/-- R187: the write of START_SS never returns; MODE stays, and there is no further step. -/
theorem test_never_returning_write :
    yields (asked (inState .idle none none true [.never]) 0x30000002 [])
      (fun t => decide (t.seq = .blocked) && modeIs t .idle none none && decide (t.events = [])) = true := by
  decide +kernel

/-- R175. -/
theorem test_reset : modeIs State.reset .idle none none = true ∧ State.reset.events = [] ∧
    State.reset.fb.wf = true := by
  decide

/-- The words of the opcode table placed after reset run, whatever the open parameters are. -/
theorem test_placed_words_run_after_reset :
    yields (State.reset.withFetchWord 32 0x30000003) (fun t => failedWith t .invalidArgument 0x000001) = true ∧
    yields (State.reset.withFetchWord 32 0x50000000) (fun t => failedWith t .unsupportedOperation 0) = true := by
  decide +kernel

/-- The frame buffer's canonical form: writing the unlisted byte takes the cell out. -/
theorem test_memory_canonical :
    ((Memory.write [] 3 0xAB).write 3 0x00) = [] ∧ ((Memory.write [] 5 0x01).write 0 0x02) = [(0, 2), (5, 1)] ∧
    Memory.wf [(0, 2), (5, 1)] = true ∧ Memory.wf [(5, 1), (0, 2)] = false ∧ Memory.wf [(6, 1)] = false ∧
    Memory.wf [(0, 0)] = false := by
  decide

/-! ### Witnesses: states and operands that meet each statement's hypotheses -/

/-- The good frame of P1. -/
def goodFrame : Bytes6 := ⟨0x66, 0x66, 0x93, 0x66, 0x66, 0x93⟩

/-- The same with its last byte changed (V-RD-18). -/
def badFrame : Bytes6 := ⟨0x66, 0x66, 0x93, 0x66, 0x66, 0x92⟩

theorem goodFrame_good : FrameGood goodFrame := by unfold FrameGood; decide +kernel
theorem badFrame_bad : ¬ FrameGood badFrame := by unfold FrameGood; decide +kernel

/-- The outcome is a next state. -/
def isNext (o : Host.Outcome State Fault Refusal) : Bool :=
  match o with
  | .next _ => true
  | .fault _ => false
  | .refused _ => false

theorem next_of_isNext {o : Host.Outcome State Fault Refusal} (h : isNext o = true) : ∃ t, o = .next t := by
  cases o with
  | next t => exact ⟨t, rfl⟩
  | fault _ => cases h
  | refused _ => cases h

theorem witness_EncodeThenDecodeIsIdentity :
    (Instr.startSs 0).WellFormed = true ∧ (Instr.startSs 15).WellFormed = true ∧
    (Instr.startPer 0 15).WellFormed = true ∧ (Instr.startPer 15 0).WellFormed = true ∧
    (Instr.crc8 0xFF 0x31 [0x00]).WellFormed = true := by decide

theorem witness_RequestWordSelectsOperationAndOperands :
    (0x10FF31FF : ReqWord) &&& 0xFF000000 = 0x10000000 ∧ (0x20FFFFFF : ReqWord) &&& 0xFF000000 = 0x20000000 ∧
    (0x3000000F : ReqWord) &&& 0xFF000000 = 0x30000000 ∧ (0x400000FF : ReqWord) &&& 0xFF000000 = 0x40000000 ∧
    (0x50FFFFFF : ReqWord) &&& 0xFF000000 = 0x50000000 ∧ (0x60000000 : ReqWord) &&& 0xFF000000 = 0x60000000 ∧
    (0x70FFFFFF : ReqWord) &&& 0xFF000000 = 0x70000000 ∧ (0x80000000 : ReqWord) &&& 0xFF000000 = 0x80000000 ∧
    (0x90FFFFFF : ReqWord) &&& 0xFF000000 = 0x90000000 ∧ (0xA0000000 : ReqWord) &&& 0xFF000000 = 0xA0000000 ∧
    (0xB0000001 : ReqWord) &&& 0xFF000000 = 0xB0000000 ∧ (0xC0FFFFFF : ReqWord) &&& 0xFF000000 = 0xC0000000 := by
  decide

theorem witness_ReservedRequestAnsweredIllegalNothingElse :
    (asked (inState .idle none none true []) 0xD0000000 [7]).seq = .idle ∧
    (asked (inState .idle none none true []) 0xD0000000 [7]).inbox = [.request 0xD0000000 [7]] ∧
    ([0x00000000, 0x01000000, 0x1F000000, 0xC1000000, 0xD0000000, 0xE0FFFFFF, 0xFFFFFFFF] : List ReqWord).all
      (fun w => decide (w.toNat / 2 ^ 24 % 16 ≠ 0 ∨ w.toNat / 2 ^ 28 ∈ [0x0, 0xD, 0xE, 0xF])) = true := by decide

theorem witness_IgnoredRequestFieldsDoNotMatter :
    ((0x30FFFFF2 : ReqWord) &&& usedMask ((0x30FFFFF2 : ReqWord).extractLsb' 28 4) =
        0x30000002 &&& usedMask ((0x30FFFFF2 : ReqWord).extractLsb' 28 4) ∧
      ((0x30FFFFF2 : ReqWord).toNat / 2 ^ 28 = 1 ∨ (0x30FFFFF2 : ReqWord).toNat / 2 ^ 28 = 2 →
        ([1] : List Byte) = [])) ∧
    ((0x10FF31FF : ReqWord) &&& usedMask ((0x10FF31FF : ReqWord).extractLsb' 28 4) =
        0x10FF3100 &&& usedMask ((0x10FF31FF : ReqWord).extractLsb' 28 4) ∧
      ((0x10FF31FF : ReqWord).toNat / 2 ^ 28 = 1 ∨ (0x10FF31FF : ReqWord).toNat / 2 ^ 28 = 2 →
        ([1] : List Byte) = [1])) := by decide

theorem witness_StepRunsTheDecodedInstruction :
    (asked (inState .idle none none true []) 0x400000F2 []).seq = .idle ∧
    (asked (inState .idle none none true []) 0x400000F2 []).inbox = [.request 0x400000F2 []] ∧
    decode (.request 0x400000F2 []) = .ok (.startPer 2 15) := by decide

theorem witness_PlacedWordRunsNext :
    decodeTableWord 32 0xB0000001 = some (.setHeater true) ∧ decodeTableWord 16 0x272A = some .cmdPerHz10Low := by decide

theorem witness_StepWaitsForARequest :
    (inState .idle none none true []).seq = .idle ∧ (inState .idle none none true []).inbox = [] := by decide

theorem witness_BlockedBlockHasNoStep : ({ inState .idle none none true [] with seq := .blocked }).seq = .blocked := by
  decide

/-- A periodic state with a byte in the frame buffer and a write in the history, READ_MEAS pending. -/
def busy : State :=
  { asked (inState .periodic (some .low) (some .hz2) true [done, .returned goodFrame]) 0x60000000 [] with
    fb := [(0, 1)], events := [.write 0x44 [0x22, 0x2B]] }

theorem witness_StepTakesOneRequest : ∃ t, step busy = .next t := ⟨_, rfl⟩

theorem witness_StepKeepsSelectorsAndFrameBufferForm : busy.Inv ∧ ∃ t, step busy = .next t := ⟨⟨rfl, rfl⟩, _, rfl⟩

theorem witness_StepKeepsHistoryLegal : busy.HistoryLegal ∧ ∃ t, step busy = .next t := by
  refine ⟨?_, _, rfl⟩
  intro e he
  obtain rfl := List.mem_singleton.mp he
  exact ⟨rfl, 0x222B, by decide, rfl⟩

theorem witness_StepExtendsHistoryAndKeepsSettings : ∃ t, step busy = .next t := ⟨_, rfl⟩

theorem witness_RunFromResetKeepsParameters :
    ∃ t, core.run 3 { State.resetWith true settings with
        inbox := [.request 0x40000011 [], .request 0x70000000 []],
        answers := [done, done, .returned goodFrame] } = .next t :=
  next_of_isNext (by decide +kernel)

theorem witness_OnlyModeSettersWriteTheModeRegisters :
    (∀ rep, Instr.readMeas ≠ .startSs rep) ∧ (∀ rep rate, Instr.readMeas ≠ .startPer rep rate) ∧
    Instr.readMeas ≠ .softReset ∧ Instr.readMeas ≠ .sendBreak := by
  refine ⟨?_, ?_, ?_, ?_⟩ <;> intros <;> simp

theorem witness_ErrorLeavesTheModeRegisters :
    (∃ t, exec (.startSs 0) (inState .periodic (some .low) (some .hz2) true [.failed]) = .next t ∧
      (t.rsp.status ≠ .ok ∨ t.seq = .blocked) ∧ isOperation (.startSs 0) = true) ∧
    (∃ t, exec .softReset (inState .periodic (some .low) (some .hz2) true [.never]) = .next t ∧
      (t.rsp.status ≠ .ok ∨ t.seq = .blocked) ∧ isOperation .softReset = true) :=
  ⟨⟨_, rfl, .inl (by decide), rfl⟩, ⟨_, rfl, .inr rfl, rfl⟩⟩

theorem witness_OperationsEndAsTheMatrixAllows :
    isOperation .iterNext = true ∧
    ∃ t, exec .iterNext (inState .singleShot (some .low) none true []) = .next t ∧ t.seq = .idle :=
  ⟨rfl, _, rfl, rfl⟩

theorem witness_CheckEnableNeverShowsOnTheBus :
    ∃ t t', exec .getStatus (inState .idle none none true [done, .returned badFrame]) = .next t ∧
      exec .getStatus { inState .idle none none true [done, .returned badFrame] with checkEn := false } = .next t' :=
  ⟨_, _, rfl, rfl⟩

theorem witness_NoTransportCallWhereNoneIsListed :
    ∀ i ∈ [Instr.crc8 0xFF 0x31 [], .validate [], .getCycle true, .startSs 3, .startPer 3 0, .startPer 0 5, .iterNext],
      makesCall i (inState .singleShot (some .low) none true []) = false := by decide

theorem witness_FailedTransportCallEndsTheInstruction :
    (makesCall .readMeas (inState .idle none none true [.failed]) = true ∧
      makesCall (.startPer 2 4) (inState .idle none none true [.failed]) = true ∧
      makesCall .cmdFetch (inState .idle none none true [.failed]) = true ∧
      (inState .idle none none true [.failed]).nextAnswer = .failed) ∧
    ((inState .periodic (some .low) (some .hz2) true [done, .failed]).nextAnswer = done ∧
      (inState .periodic (some .low) (some .hz2) true [done, .failed]).dropAnswer.nextAnswer = .failed ∧
      (inState .periodic (some .low) (some .hz2) true [done, .failed]).mode = .periodic) := by decide

theorem witness_UnansweredCallBlocks :
    (makesCall .iterNext (inState .periodic (some .low) (some .hz1) true [.never]) = true ∧
      (inState .periodic (some .low) (some .hz1) true [.never]).nextAnswer = .never) ∧
    ((inState .periodic (some .low) (some .hz2) true [done, .never]).nextAnswer = done ∧
      (inState .periodic (some .low) (some .hz2) true [done, .never]).dropAnswer.nextAnswer = .never ∧
      (inState .periodic (some .low) (some .hz2) true [done, .never]).mode = .periodic) := by decide

theorem witness_InfoIsZeroAboveItsLowByte :
    (∃ t, exec (.startSs 3) (inState .idle none none true []) = .next t ∧ t.seq = .idle ∧
      t.rsp.status = .invalidArgument ∧ isOperation (.startSs 3) = true) ∧
    (∃ t, exec .getId (inState .idle none none true [.failed]) = .next t ∧ t.seq = .idle ∧
      t.rsp.status = .transportFailure ∧ isOperation .getId = true) ∧
    (∃ t, exec (.getCycle false) (inState .idle none none true []) = .next t ∧ t.seq = .idle ∧
      t.rsp.status = .unsupportedOperation ∧ isOperation (.getCycle false) = true) :=
  ⟨⟨_, rfl, rfl, rfl, rfl⟩, ⟨_, rfl, rfl, rfl, rfl⟩, ⟨_, rfl, rfl, rfl, rfl⟩⟩

theorem witness_FixedCommandWordIsSentByteExact :
    (inState .idle none none true [.returned goodFrame]).nextAnswer = .returned goodFrame ∧
    (Instr.cmdFetch, (0xE0 : Byte), (0x00 : Byte)) ∈ [(Instr.cmdFetch, (0xE0 : Byte), (0x00 : Byte)),
      (.cmdReadId, 0x36, 0x82), (.cmdReadStatus, 0xF3, 0x2D), (.cmdSoftReset, 0x30, 0xA2), (.cmdHeaterOn, 0x30, 0x6D),
      (.cmdHeaterOff, 0x30, 0x66), (.cmdBreak, 0x30, 0x93), (.cmdSsLow, 0x24, 0x16), (.cmdSsMedium, 0x24, 0x0B),
      (.cmdSsHigh, 0x24, 0x00)] := by decide

theorem witness_PeriodicCommandWordIsSentFromTheTable :
    ({ inState .idle none none true [.returned goodFrame] with
        params := { settings with perCmd := otherTable } }).nextAnswer = .returned goodFrame ∧
    (Instr.cmdPerHz4High, otherTable.hz4.first, otherTable.hz4.second.high) = (.cmdPerHz4High, 0xA1, 0xB3) := by decide

theorem witness_CommandRowSendsItsOwnWordUnderTheDefaultTable :
    (inState .idle none none true [.returned goodFrame]).params.perCmd = perCmdDefault ∧
    encode .cmdPerHz10Medium = .command 0x2721 ∧
    (inState .idle none none true [.returned goodFrame]).nextAnswer = .returned goodFrame := by decide

theorem witness_SetHeaterSendsOneCommand :
    (0xB000000F : ReqWord) &&& 0xFF000000 = 0xB0000000 ∧
    (inState .idle none none true [.returned goodFrame]).nextAnswer = .returned goodFrame ∧
    (inState .idle none none true [.failed]).nextAnswer = .failed := by decide

theorem witness_StartSingleShotMeaning :
    (0x3000000F : ReqWord) &&& 0xFF000000 = 0x30000000 ∧
    2 < 3 ∧ (∀ x ∈ [(0, Rep.low, (0x16 : Byte)), (1, Rep.medium, 0x0B), (2, Rep.high, 0x00)],
      x ∈ [(0, Rep.low, (0x16 : Byte)), (1, .medium, 0x0B), (2, .high, 0x00)]) ∧
    (inState .periodic (some .low) (some .hz1) true [.returned goodFrame]).nextAnswer = .returned goodFrame ∧
    (inState .periodic (some .low) (some .hz1) true [.failed]).nextAnswer = .failed := by decide

theorem witness_StartPeriodicMeaning :
    (0x400000F2 : ReqWord) &&& 0xFF000000 = 0x40000000 ∧ 2 < 3 ∧ 2 ≤ 2 ∧ 4 < 5 ∧
    (2, Rep.high, RepBytes.high) ∈
      [(0, Rep.low, RepBytes.low), (1, .medium, RepBytes.medium), (2, .high, RepBytes.high)] ∧
    (4, Rate.hz10, perCmdDefault.hz10) ∈ [(0, Rate.hz05, perCmdDefault.hz05), (1, .hz1, perCmdDefault.hz1),
      (2, .hz2, perCmdDefault.hz2), (3, .hz4, perCmdDefault.hz4), (4, .hz10, perCmdDefault.hz10)] ∧
    (inState .idle none none true [.returned goodFrame]).nextAnswer = .returned goodFrame ∧
    (inState .idle none none true [.failed]).nextAnswer = .failed := by
  refine ⟨by decide, by decide, by decide, by decide, by simp, by simp, rfl, rfl⟩

theorem witness_StartPeriodicBytesUnderTheDefaultTable :
    (inState .idle none none true [.returned goodFrame]).params.perCmd = perCmdDefault ∧
    (inState .idle none none true [.returned goodFrame]).nextAnswer = .returned goodFrame ∧
    (4, 2, (0x27 : Byte), (0x37 : Byte)) ∈ [(0, 0, (0x20 : Byte), (0x2F : Byte)), (0, 1, 0x20, 0x24), (0, 2, 0x20, 0x32),
      (1, 0, 0x21, 0x2D), (1, 1, 0x21, 0x26), (1, 2, 0x21, 0x30), (2, 0, 0x22, 0x2B), (2, 1, 0x22, 0x20),
      (2, 2, 0x22, 0x36), (3, 0, 0x23, 0x29), (3, 1, 0x23, 0x22), (3, 2, 0x23, 0x34), (4, 0, 0x27, 0x2A),
      (4, 1, 0x27, 0x21), (4, 2, 0x27, 0x37)] := by decide

theorem witness_GetCycleMeaning :
    (0x50000001 : ReqWord) &&& 0xFF000000 = 0x50000000 ∧
    (inState .idle none none true []).mode = .idle ∧
    (inState .singleShot (some .high) none true []).mode ≠ .idle ∧
    ((inState .singleShot (some .high) none true []).mode = .singleShot ∧
      (inState .singleShot (some .high) none true []).rep = some .high ∧
      (Rep.high, 12500, 15500) ∈ [(Rep.low, 2500, 4500), (.medium, 4500, 6500), (.high, 12500, 15500)]) ∧
    ((inState .periodic (some .low) (some .hz05) true []).mode = .periodic ∧
      (inState .periodic (some .low) (some .hz05) true []).rate = some .hz05 ∧
      (Rate.hz05, 2000000) ∈
        [(Rate.hz05, 2000000), (.hz1, 1000000), (.hz2, 500000), (.hz4, 250000), (.hz10, 100000)]) := by decide

theorem witness_SoftResetAndBreakReturnToIdle :
    (Instr.softReset, (0xA0000000 : ReqWord), (0xA2 : Byte)) ∈
      [(Instr.softReset, (0xA0000000 : ReqWord), (0xA2 : Byte)), (.sendBreak, 0xC0000000, 0x93)] ∧
    (Instr.sendBreak, (0xC0000000 : ReqWord), (0x93 : Byte)) ∈
      [(Instr.softReset, (0xA0000000 : ReqWord), (0xA2 : Byte)), (.sendBreak, 0xC0000000, 0x93)] ∧
    (0xA0FFFFFF : ReqWord) &&& 0xFF000000 = 0xA0000000 ∧ (0xC0000000 : ReqWord) &&& 0xFF000000 = 0xC0000000 ∧
    (inState .periodic (some .low) (some .hz1) true [.returned goodFrame]).nextAnswer = .returned goodFrame ∧
    (inState .periodic (some .low) (some .hz1) true [.failed]).nextAnswer = .failed := by decide

theorem witness_Crc8Meaning : (0x10FF3100 : ReqWord) &&& 0xFF000000 = 0x10000000 := by decide

theorem witness_Crc8DependsOnItsOperandsOnly :
    ∃ t t', exec (.crc8 0xFF 0x31 [1]) (inState .idle none none true []) = .next t ∧
      exec (.crc8 0xFF 0x31 [1]) busy = .next t' := ⟨_, _, rfl, rfl⟩

theorem witness_OneChangedByteChangesTheChecksum :
    (0x31 : Byte).getLsbD 0 = true ∧ (0x01 : Byte).getLsbD 0 = true ∧ (0x00 : Byte) ≠ 0x80 := by decide

/-- Every clause of ValidateMeaning: the lengths around 3 and 6, a good and a bad frame of each length, both halves. -/
theorem witness_ValidateMeaning :
    (∀ din ∈ ([[], [0, 0], [0, 0, 0, 0], [0, 0, 0, 0, 0], [0, 0, 0, 0, 0, 0, 0]] : List (List Byte)),
      din.length ≠ 3 ∧ din.length ≠ 6) ∧
    (∃ i : Fin 6, ([0xBE, 0xEF, 0x92] : List Byte).length ≤ i.val) ∧
    crc8 [0xBE, 0xEF] 0xFF 0x31 = 0x92 ∧ crc8 [0xBE, 0xEF] 0xFF 0x31 ≠ 0x93 ∧
    (crc8 [0x00, 0x00] 0xFF 0x31 = 0x81 ∧ crc8 [0x00, 0x00] 0xFF 0x31 ≠ 0x80) := by
  decide +kernel

theorem witness_ValidatorProperties :
    ((0x00 : Byte) = 0x00 ∨ (0x00 : Byte) = 0xFF) ∧ ((0xFF : Byte) = 0x00 ∨ (0xFF : Byte) = 0xFF) ∧
    (3 = 3 ∨ 3 = 6) ∧ (6 = 3 ∨ 6 = 6) := by decide

theorem witness_OneCorruptedDataByteIsDetected :
    ((0xBF : Byte) ≠ 0xBE ∧ (0xEF : Byte) = 0xEF ∨ (0xBF : Byte) = 0xBE ∧ (0xEF : Byte) ≠ 0xEF) ∧
    ((0xBE : Byte) ≠ 0xBE ∧ (0xEE : Byte) = 0xEF ∨ (0xBE : Byte) = 0xBE ∧ (0xEE : Byte) ≠ 0xEF) := by decide

theorem witness_LoadedFrameReadsBack :
    ([] : List Byte).length ≤ 6 ∧ ([1, 2, 3] : List Byte).length ≤ (3 : Fin 6).val ∧
    (5 : Fin 6).val < ([1, 2, 3, 4, 5, 6] : List Byte).length ∧ ([1, 2, 3, 4, 5, 6] : List Byte).length ≤ 6 := by decide

theorem witness_ReadMeasurementOutsidePeriodic :
    ((inState .singleShot (some .high) none true [.returned goodFrame]).mode ≠ .periodic ∧
      (inState .singleShot (some .high) none true [.returned goodFrame]).nextAnswer = .returned goodFrame ∧
      ((inState .singleShot (some .high) none true [.returned goodFrame]).checkEn = true → FrameGood goodFrame)) ∧
    ((inState .idle none none false [.returned badFrame]).mode ≠ .periodic ∧
      (inState .idle none none false [.returned badFrame]).nextAnswer = .returned badFrame ∧
      ((inState .idle none none false [.returned badFrame]).checkEn = true → FrameGood badFrame)) :=
  ⟨⟨by decide, rfl, fun _ => goodFrame_good⟩, ⟨by decide, rfl, fun h => by cases h⟩⟩

theorem witness_ReadMeasurementAndNextInPeriodic :
    busy.mode = .periodic ∧ (∃ a, busy.nextAnswer = .returned a) ∧ busy.dropAnswer.nextAnswer = .returned goodFrame ∧
    (busy.checkEn = true → FrameGood goodFrame) := ⟨rfl, ⟨_, rfl⟩, rfl, fun _ => goodFrame_good⟩

theorem witness_NextIsReadMeasurementOrUnsupported :
    (0x70000000 : ReqWord) &&& 0xFF000000 = 0x70000000 ∧
    busy.mode = .periodic ∧ (inState .idle none none true []).mode ≠ .periodic ∧
    (inState .singleShot (some .low) none true []).mode ≠ .periodic := by decide

theorem witness_GetIdentifierMeaning :
    (∃ a, busy.nextAnswer = .returned a) ∧ busy.dropAnswer.nextAnswer = .returned goodFrame ∧
    (busy.checkEn = true → FrameGood goodFrame) := ⟨⟨_, rfl⟩, rfl, fun _ => goodFrame_good⟩

theorem witness_GetStatusMeaning :
    (∃ a, busy.nextAnswer = .returned a) ∧ busy.dropAnswer.nextAnswer = .returned goodFrame ∧
    (busy.checkEn = true → goodFrame.b2 = crc8 [goodFrame.b0, goodFrame.b1] 0xFF 0x31) :=
  ⟨⟨_, rfl⟩, rfl, fun _ => goodFrame_good.1⟩

/-- A periodic state whose second transport answer is a bad frame. -/
def corrupted : State := inState .periodic (some .low) (some .hz2) true [done, .returned badFrame]

theorem witness_CorruptedMeasurementOrIdentifierIsReported :
    corrupted.checkEn = true ∧ corrupted.dropAnswer.nextAnswer = .returned badFrame ∧
    (∃ a, corrupted.nextAnswer = .returned a) ∧ corrupted.mode = .periodic ∧ ¬ FrameGood badFrame :=
  ⟨rfl, rfl, ⟨_, rfl⟩, rfl, badFrame_bad⟩

theorem witness_CorruptedSingleReadOrStatusIsReported :
    ((inState .idle none none true [.returned badFrame]).checkEn = true ∧
      (inState .idle none none true [.returned badFrame]).nextAnswer = .returned badFrame ∧
      (inState .idle none none true [.returned badFrame]).mode ≠ .periodic ∧ ¬ FrameGood badFrame) ∧
    ((inState .idle none none true [done, .returned ⟨0x80, 0x10, 0xE0, 0, 0, 0⟩]).dropAnswer.nextAnswer =
        .returned ⟨0x80, 0x10, 0xE0, 0, 0, 0⟩ ∧ (0xE0 : Byte) ≠ crc8 [0x80, 0x10] 0xFF 0x31) :=
  ⟨⟨rfl, rfl, by decide, badFrame_bad⟩, ⟨rfl, by decide +kernel⟩⟩

theorem witness_TemperatureIsTheExactLinearFunction : (0x41D3 : Half) < 0x41D4 ∧ (0xFFFE : Half) < 0xFFFF := by decide

theorem witness_HumidityIsTheExactLinearFunction : (0x0000 : Half) < 0x0001 ∧ (0xFFFE : Half) < 0xFFFF := by decide

end Sys2Proof.Machine.Tests
end

/-! SUPPORT. The frame buffer read back, and request words by their match value (R16, R51 to R53). -/

namespace Sys2Proof.Machine

/-! ### The frame buffer: a loaded frame read back -/

/-- Where no address is written twice, each written byte reads back. -/
theorem Memory.read_writeAll_of_mem (m : Memory) {l : List (Fin 6 × Byte)} (hl : (l.map Prod.fst).Nodup)
    {p : Fin 6 × Byte} (hp : p ∈ l) : (m.writeAll l).read p.1 = p.2 := by
  induction l generalizing m with
  | nil => cases hp
  | cons q rest ih =>
    obtain ⟨hq, hrest⟩ := List.nodup_cons.mp hl
    rw [Memory.writeAll]
    obtain rfl | hp := List.mem_cons.mp hp
    · have hnot : ∀ r ∈ rest, r.1 ≠ p.1 := fun r hr hrp => hq (List.mem_map.mpr ⟨r, hr, hrp⟩)
      rw [Memory.read_writeAll_of_notMem _ hnot, Memory.read_write, if_pos rfl]
    · exact ih _ hrest hp

theorem getElem_fbIndices {k : Nat} (h : k < fbIndices.length) : fbIndices[k] = ⟨k, h⟩ := by
  have hk : k < 6 := h
  interval_cases k <;> rfl

theorem Memory.read_storeFrame_of_lt (m : Memory) {bytes : List Byte} {i : Fin 6} (h : i.val < bytes.length) :
    (m.storeFrame bytes).read i = bytes[i.val] := by
  have hnodup : ((fbIndices.zip bytes).map Prod.fst).Nodup := by
    rw [List.zip_eq_zip_take_min, List.map_fst_zip (by simp)]
    exact (show fbIndices.Nodup by decide).sublist (List.take_sublist _ _)
  have hmem : (i, bytes[i.val]) ∈ fbIndices.zip bytes := by
    have hi : i.val < (fbIndices.zip bytes).length := by
      rw [List.length_zip]
      exact Nat.lt_min.mpr ⟨i.isLt, h⟩
    exact List.mem_of_getElem (h := hi) (by rw [List.getElem_zip, getElem_fbIndices])
  exact Memory.read_writeAll_of_mem m hnodup hmem

/-! ### Request words by their match value -/

theorem reqOp_and_mask (w : ReqWord) : reqOp (w &&& 0xFF000000) = reqOp w := by
  ext i hi
  interval_cases i <;> simp [reqOp]

theorem reqRsv_and_mask (w : ReqWord) : reqRsv (w &&& 0xFF000000) = reqRsv w := by
  ext i hi
  interval_cases i <;> simp [reqRsv]

/-- OP and RSV are what the match value says (R51, R53). -/
theorem decodeRequest_of_match {w v : ReqWord} {i : Instr} {din : List Byte} (hw : w &&& 0xFF000000 = v)
    (hrsv : reqRsv v = 0) (hop : decodeOp (reqOp v) w din = some i) : decodeRequest w din = .ok i := by
  rw [← hw, reqRsv_and_mask] at hrsv
  rw [← hw, reqOp_and_mask] at hop
  simp only [decodeRequest, hrsv, hop, if_true]

/-- The flag operand is the request's parity (R52). -/
theorem reqFlag_eq (w : ReqWord) : reqFlag w = decide (w.toNat % 2 = 1) := Nat.testBit_zero _

end Sys2Proof.Machine

/-! SUPPORT. What any part of an operation does to the state: quiet parts, parts that call the transport, and whole
instructions. Each effect is composed along Flow.bind from those of the primitives. -/

namespace Sys2Proof.Machine

/-! ### Where the steps of an operation end -/

/-- The state in which the steps of an operation end, whether with a value, with an error or waiting for ever. -/
def Flow.final {α : Type} : Flow α → State
  | .ok _ s => s
  | .raise _ s => s
  | .hang s => s

/-! ### READ_MEAS and NEXT, by MODE -/

theorem readMeasFlow_of_periodic {s : State} (h : s.mode = .periodic) :
    readMeasFlow s = (sendCmd fetchWord s).bind fun _ t => readout 6 decodeMeas t := by
  simp only [readMeasFlow, fetchIfPeriodic, h]

theorem readMeasFlow_of_not_periodic {s : State} (h : s.mode ≠ .periodic) :
    readMeasFlow s = readout 6 decodeMeas s := by
  unfold readMeasFlow fetchIfPeriodic
  split
  · contradiction
  all_goals rfl

theorem iterNextFlow_of_periodic {s : State} (h : s.mode = .periodic) : iterNextFlow s = readMeasFlow s := by
  simp only [iterNextFlow, h]

theorem iterNextFlow_of_not_periodic {s : State} (h : s.mode ≠ .periodic) :
    iterNextFlow s = .raise (.unsupportedOperation s.mode) s := by
  unfold iterNextFlow
  split
  · contradiction
  all_goals rfl

/-! ### What the bus shows of two states -/

/-- The bus and the mode registers show no difference: the history, the transport's answers, MODE, REP and RATE. -/
def SameBus (s t : State) : Prop := NoTransport s t ∧ SameMode s t

theorem SameMode.symm {s t : State} (h : SameMode s t) : SameMode t s := by
  obtain ⟨hmode, hrep, hrate⟩ := h
  exact ⟨hmode.symm, hrep.symm, hrate.symm⟩

theorem SameMode.trans {s t u : State} (h : SameMode s t) (h' : SameMode t u) : SameMode s u := by
  obtain ⟨hmode, hrep, hrate⟩ := h
  obtain ⟨hmode', hrep', hrate'⟩ := h'
  exact ⟨hmode'.trans hmode, hrep'.trans hrep, hrate'.trans hrate⟩

theorem SameBus.symm {s t : State} (h : SameBus s t) : SameBus t s := by
  obtain ⟨⟨hevents, hanswers⟩, hmode⟩ := h
  exact ⟨⟨hevents.symm, hanswers.symm⟩, hmode.symm⟩

theorem SameBus.trans {s t u : State} (h : SameBus s t) (h' : SameBus t u) : SameBus s u := by
  obtain ⟨⟨hevents, hanswers⟩, hmode⟩ := h
  obtain ⟨⟨hevents', hanswers'⟩, hmode'⟩ := h'
  exact ⟨⟨hevents'.trans hevents, hanswers'.trans hanswers⟩, hmode.trans hmode'⟩

/-! ### Quiet parts of an operation: those that call no transport and write no mode register -/

/-- From s to t the bus and the mode registers show nothing, the settings and the inbox are kept, and the frame
buffer stays canonical. -/
structure Quiet (s t : State) : Prop where
  bus : SameBus s t
  settings : SameSettings s t
  inbox : t.inbox = s.inbox
  fb_wf : s.fb.wf = true → t.fb.wf = true

theorem Quiet.refl (s : State) : Quiet s s := ⟨⟨⟨rfl, rfl⟩, rfl, rfl, rfl⟩, ⟨rfl, rfl⟩, rfl, id⟩

theorem SameSettings.trans {s t u : State} (h : SameSettings s t) (h' : SameSettings t u) : SameSettings s u :=
  ⟨h'.1.trans h.1, h'.2.trans h.2⟩

theorem Quiet.trans {s t u : State} (h : Quiet s t) (h' : Quiet t u) : Quiet s u where
  bus := h.bus.trans h'.bus
  settings := h.settings.trans h'.settings
  inbox := h'.inbox.trans h.inbox
  fb_wf := h'.fb_wf ∘ h.fb_wf

/-- A change is quiet that writes ACC, FB, FLEN, RSP, the sequencer and the free counter only, and keeps the frame
buffer canonical. -/
theorem Quiet.of_working {s t : State}
    (h : t = { s with acc := t.acc, fb := t.fb, flen := t.flen, rsp := t.rsp, seq := t.seq, fresh := t.fresh })
    (hfb : s.fb.wf = true → t.fb.wf = true) : Quiet s t where
  bus := by rw [h]; exact ⟨⟨rfl, rfl⟩, rfl, rfl, rfl⟩
  settings := by rw [h]; exact ⟨rfl, rfl⟩
  inbox := by rw [h]
  fb_wf := hfb

theorem quiet_setAcc (s : State) (a : Byte) : Quiet s (s.setAcc a) := .of_working rfl id

theorem quiet_dropAcc (s : State) : Quiet s s.dropAcc := .of_working rfl id

theorem quiet_bump (s : State) : Quiet s s.bump := .of_working rfl id

theorem quiet_loadFrame (s : State) (bytes : List Byte) : Quiet s (s.loadFrame bytes) :=
  .of_working rfl fun h => Memory.wf_storeFrame h _

theorem quiet_dropFrame (s : State) (n : Nat) : Quiet s (s.dropFrame n) :=
  .of_working rfl fun h => Memory.wf_storeFrame h _

theorem quiet_dropWorking (n : Nat) (c : Bool) (s : State) : Quiet s (dropWorking n c s) := by
  cases c with
  | false => exact quiet_dropFrame s n
  | true => exact (quiet_dropAcc s).trans (quiet_dropFrame _ n)

theorem quiet_respond (s : State) (st : Status) (r0 r1 : Option Long) (info : Option Info) :
    Quiet s (s.respond st r0 r1 info) := .of_working rfl id

theorem quiet_block (s : State) : Quiet s s.block := .of_working rfl id

/-- The response, or the blocked sequencer, is all that ending an operation writes. -/
theorem quiet_complete (x : Flow Result) : Quiet x.final (complete x) := by
  cases x with
  | ok r s => cases r <;> exact quiet_respond s _ _ _ _
  | raise e s => exact quiet_respond s _ _ _ _
  | hang s => exact quiet_block s

section
variable {α β : Type} {s : State} {x : Flow α}

theorem Quiet.bind {f : α → State → Flow β} (h : Quiet s x.final) (hf : ∀ a t, Quiet t (f a t).final) :
    Quiet s (x.bind f).final := by
  cases x with
  | ok a t => exact h.trans (hf a t)
  | raise e t => exact h
  | hang t => exact h

theorem Quiet.mapState {g : State → State} (h : Quiet s x.final) (hg : ∀ t, Quiet t (g t)) :
    Quiet s (x.mapState g).final := by
  cases x with
  | ok a t => exact h.trans (hg t)
  | raise e t => exact h.trans (hg t)
  | hang t => exact h

end

/-! ### The checksum, the validator and GET_CYCLE are quiet -/

theorem quiet_crc8Flow (seed poly : Byte) (din : List Byte) (s : State) :
    Quiet s (crc8Flow seed poly din s).final := (quiet_setAcc s _).trans (quiet_dropAcc _)

theorem quiet_checkSubFrame (place : SubFrame) (d0 d1 c : Byte) (s : State) :
    Quiet s (checkSubFrame place d0 d1 c s).final := by
  by_cases h : crc8 [d0, d1] 0xFF 0x31 = c
  · rw [checkSubFrame_good h]
    exact quiet_setAcc s _
  · rw [checkSubFrame_bad h]
    exact quiet_setAcc s _

theorem quiet_validate (buf : List Byte) (s : State) : Quiet s (validate buf s).final := by
  unfold validate
  split
  · exact quiet_checkSubFrame _ _ _ _ s
  · exact (quiet_checkSubFrame _ _ _ _ s).bind fun _ t => quiet_checkSubFrame _ _ _ _ t
  · exact .refl s

theorem quiet_validateFlow (din : List Byte) (s : State) : Quiet s (validateFlow din s).final := by
  unfold validateFlow
  split
  · have hcheck := (quiet_loadFrame s din).trans (quiet_validate din (s.loadFrame din))
    exact (hcheck.mapState fun t => (quiet_dropAcc t).trans (quiet_dropFrame _ _)).bind fun _ t => .refl t
  · exact (quiet_validate din s).bind fun _ t => .refl t

theorem quiet_decodeLoaded (n : Nat) (dec : Memory → Result) (s : State) :
    Quiet s (decodeLoaded n dec s).final := by
  have hcheck : Quiet s (checkLoaded n s).final := by
    unfold checkLoaded
    split
    · exact quiet_validate _ s
    · exact .refl s
  exact (hcheck.bind (f := fun _ t => .ok (dec t.fb) t) fun _ t => .refl t).mapState (quiet_dropWorking n s.checkEn)

theorem quiet_cycleResult (us : Option Nat) (s : State) : Quiet s (cycleResult us s).final := by
  cases us with
  | none => exact quiet_bump s
  | some n => exact .refl s

theorem quiet_getCycleFlow (preferMin : Bool) (s : State) : Quiet s (getCycleFlow preferMin s).final := by
  unfold getCycleFlow
  split
  · exact .refl s
  · exact quiet_cycleResult _ s
  · exact quiet_cycleResult _ s

/-! ### What any part of an operation does to the state -/

/-- From s to t at most k events are added at the end of the history, all of them legal; the settings and the inbox
are kept, the frame buffer stays canonical; and MODE, REP and RATE are kept, unless `setter` holds, when they may
also be left holding what the new mode needs (R25). -/
structure Effect (k : Nat) (setter : Prop) (s t : State) : Prop where
  events : ∃ new, t.events = s.events ++ new ∧ new.length ≤ k ∧ ∀ e ∈ new, e.Legal s.params
  settings : SameSettings s t
  inbox : t.inbox = s.inbox
  fb_wf : s.fb.wf = true → t.fb.wf = true
  mode : SameMode s t ∨ setter ∧ modeRegistersHeld t = true

theorem modeRegistersHeld_of_sameMode {s t : State} (h : SameMode s t) :
    modeRegistersHeld t = modeRegistersHeld s := by
  obtain ⟨hmode, hrep, hrate⟩ := h
  simp only [modeRegistersHeld, hmode, hrep, hrate]

section
variable {k l : Nat} {setter : Prop} {s t u : State}

theorem Quiet.effect (h : Quiet s t) : Effect 0 setter s t := by
  obtain ⟨⟨⟨hevents, -⟩, hmode⟩, hsettings, hinbox, hfb⟩ := h
  exact ⟨⟨[], by simp [hevents]⟩, hsettings, hinbox, hfb, .inl hmode⟩

theorem Effect.mono (h : Effect k setter s t) (hkl : k ≤ l) : Effect l setter s t := by
  obtain ⟨new, hnew, hlen, hlegal⟩ := h.events
  exact { h with events := ⟨new, hnew, hlen.trans hkl, hlegal⟩ }

theorem Effect.trans (h : Effect k setter s t) (h' : Effect l setter t u) : Effect (k + l) setter s u where
  events := by
    obtain ⟨new, hnew, hlen, hlegal⟩ := h.events
    obtain ⟨new', hnew', hlen', hlegal'⟩ := h'.events
    refine ⟨new ++ new', by rw [hnew', hnew, List.append_assoc], by rw [List.length_append]; omega, ?_⟩
    rw [h.settings.2] at hlegal'
    exact List.forall_mem_append.mpr ⟨hlegal, hlegal'⟩
  settings := h.settings.trans h'.settings
  inbox := h'.inbox.trans h.inbox
  fb_wf := h'.fb_wf ∘ h.fb_wf
  mode := by
    obtain hsame' | hset' := h'.mode
    · obtain hsame | ⟨hsetter, hheld⟩ := h.mode
      · exact .inl (hsame.trans hsame')
      · exact .inr ⟨hsetter, (modeRegistersHeld_of_sameMode hsame').trans hheld⟩
    · exact .inr hset'

/-- The next steps of an operation run only where the earlier ones ended with a value (R157). -/
theorem Effect.bind {α β : Type} {x : Flow α} {f : α → State → Flow β} (h : Effect k setter s x.final)
    (hf : ∀ a t, Effect l setter t (f a t).final) : Effect (k + l) setter s (x.bind f).final := by
  cases x with
  | ok a t => exact h.trans (hf a t)
  | raise e t => exact h.mono (Nat.le_add_right k l)
  | hang t => exact h.mono (Nat.le_add_right k l)

end

/-! ### What the transport's primitives do to the state -/

section
variable {setter : Prop} {s : State}

theorem effect_logEvent {e : Event} (he : e.Legal s.params) : Effect 1 setter s (s.logEvent e) where
  events := ⟨[e], rfl, Nat.le_refl 1, fun _ hx => List.mem_singleton.mp hx ▸ he⟩
  settings := ⟨rfl, rfl⟩
  inbox := rfl
  fb_wf := id
  mode := .inl ⟨rfl, rfl, rfl⟩

theorem effect_dropAnswer (s : State) : Effect 0 setter s s.dropAnswer where
  events := ⟨[], by simp⟩
  settings := ⟨rfl, rfl⟩
  inbox := rfl
  fb_wf := id
  mode := .inl ⟨rfl, rfl, rfl⟩

theorem effect_dropAnswer_logEvent {e : Event} (he : e.Legal s.params) :
    Effect 1 setter s (s.dropAnswer.logEvent e) :=
  Nat.zero_add 1 ▸ (effect_dropAnswer s).trans (effect_logEvent he)

theorem effect_sendCmd {w : Half} (hw : w ∈ sendableWords s.params.perCmd) :
    Effect 1 setter s (sendCmd w s).final := by
  rcases sendCmd_cases w s with ⟨b, -, h⟩ | ⟨-, h⟩ | ⟨-, h⟩ <;> rw [h]
  · exact effect_dropAnswer_logEvent ⟨rfl, w, hw, rfl⟩
  · exact effect_dropAnswer_logEvent (e := .failed .write) trivial
  · exact (effect_dropAnswer s).mono (Nat.zero_le 1)

theorem length_firstBytes {n : Nat} (hn : n = 3 ∨ n = 6) (b : Bytes6) : (firstBytes n b).length = n := by
  rcases hn with rfl | rfl <;> rfl

theorem effect_busReadReg {n : Nat} (hn : n = 3 ∨ n = 6) : Effect 1 setter s (busReadReg n s).final := by
  cases h : s.nextAnswer with
  | returned b =>
    rw [busReadReg_returned h]
    exact effect_dropAnswer_logEvent ⟨rfl, rfl, hn, length_firstBytes hn b⟩
  | failed =>
    rw [busReadReg_failed h]
    exact effect_dropAnswer_logEvent (e := .failed .read) trivial
  | never =>
    rw [busReadReg_never h]
    exact (effect_dropAnswer s).mono (Nat.zero_le 1)

theorem effect_readout {n : Nat} (hn : n = 3 ∨ n = 6) (dec : Memory → Result) :
    Effect 1 setter s (readout n dec s).final :=
  (effect_busReadReg hn).bind (l := 0) fun bytes t =>
    ((quiet_loadFrame t bytes).trans (quiet_decodeLoaded n dec _)).effect

/-! ### What each operation does to the state -/

/-- One command is one event; `rest` is what the operation does once its command is sent. -/
theorem effect_sendThen {w : Half} {rest : State → State} (hw : w ∈ sendableWords s.params.perCmd)
    (hrest : ∀ t, Effect 0 setter t (rest t)) : Effect 1 setter s (sendThen w rest s).final :=
  (effect_sendCmd hw).bind (l := 0) fun _ t => hrest t

theorem effect_readMeasFlow (s : State) : Effect 2 setter s (readMeasFlow s).final := by
  by_cases h : s.mode = .periodic
  · rw [readMeasFlow_of_periodic h]
    exact (effect_sendCmd (by simp [sendableWords, fetchWord])).bind fun _ _ => effect_readout (.inr rfl) decodeMeas
  · rw [readMeasFlow_of_not_periodic h]
    exact (effect_readout (.inr rfl) decodeMeas).mono (by decide)

theorem effect_iterNextFlow (s : State) : Effect 2 setter s (iterNextFlow s).final := by
  by_cases h : s.mode = .periodic
  · rw [iterNextFlow_of_periodic h]
    exact effect_readMeasFlow s
  · rw [iterNextFlow_of_not_periodic h]
    exact (Quiet.refl s).effect.mono (Nat.zero_le 2)

/-- A command, a sleep and a read are three events, the most an operation makes (R86). -/
theorem effect_commandedReadout {w : Half} {n : Nat} (hw : w ∈ sendableWords s.params.perCmd) (hn : n = 3 ∨ n = 6)
    (dec : Memory → Result) : Effect 3 setter s (commandedReadout w n dec s).final :=
  (effect_sendCmd hw).bind (l := 2) fun _ _ =>
    (effect_logEvent (e := .sleep settleUs) rfl).trans (effect_readout hn dec)

end

/-- A change of MODE, REP and RATE only, to a mode whose registers are held. -/
theorem effect_of_modeRegisters {setter : Prop} (hset : setter) {s t : State}
    (h : t = { s with mode := t.mode, rep := t.rep, rate := t.rate }) (hheld : modeRegistersHeld t = true) :
    Effect 0 setter s t where
  events := ⟨[], by rw [h]; simp⟩
  settings := by rw [h]; exact ⟨rfl, rfl⟩
  inbox := by rw [h]
  fb_wf := by rw [h]; exact id
  mode := .inr ⟨hset, hheld⟩

theorem ssCmd_mem_sendableWords (t : PerTable) (r : Rep) : ssCmd r ∈ sendableWords t := by
  cases r <;> simp [sendableWords, ssCmd]

theorem perCmd_mem_sendableWords (t : PerTable) (q : Rate) (r : Rep) : perCmd t q r ∈ sendableWords t := by
  cases q <;> cases r <;> simp [sendableWords, perCmd, perRow, repByte]

section
variable {setter : Prop} (hset : setter)
include hset

theorem effect_startSsFlow (rep : Nat) (s : State) : Effect 1 setter s (startSsFlow rep s).final := by
  unfold startSsFlow
  split
  · exact (Quiet.refl s).effect.mono (Nat.zero_le 1)
  · exact effect_sendThen (ssCmd_mem_sendableWords _ _) fun t => effect_of_modeRegisters hset rfl rfl

theorem effect_startPerFlow (rep rate : Nat) (s : State) : Effect 1 setter s (startPerFlow rep rate s).final := by
  unfold startPerFlow
  split
  · exact (Quiet.refl s).effect.mono (Nat.zero_le 1)
  · exact (Quiet.refl s).effect.mono (Nat.zero_le 1)
  · exact effect_sendThen (perCmd_mem_sendableWords _ _ _) fun t => effect_of_modeRegisters hset rfl rfl

/-- SOFT_RESET and BREAK: one command, then MODE <- Idle, which needs no selector (R25, R105, R106). -/
theorem effect_sendThen_setMode_idle {w : Half} {s : State} (hw : w ∈ sendableWords s.params.perCmd) :
    Effect 1 setter s (sendThen w (fun t => t.setMode .idle) s).final :=
  effect_sendThen hw fun _ => effect_of_modeRegisters hset rfl rfl

end

/-! ### The command words on their own -/

/-- Every command word taken as an instruction is one emission of a sendable word (R59, R84; log 11). -/
theorem exec_eq_emit {i : Instr} (h : isOperation i = false) :
    ∃ word : PerTable → Half, (∀ t, word t ∈ sendableWords t) ∧ ∀ s, exec i s = emit (word s.params.perCmd) s := by
  cases i with
  | cmdFetch => exact ⟨fun _ => fetchWord, fun t => by simp [sendableWords, fetchWord], fun _ => rfl⟩
  | cmdReadId => exact ⟨fun _ => readIdWord, fun t => by simp [sendableWords, readIdWord], fun _ => rfl⟩
  | cmdReadStatus => exact ⟨fun _ => readStatusWord, fun t => by simp [sendableWords, readStatusWord], fun _ => rfl⟩
  | cmdSoftReset => exact ⟨fun _ => softResetWord, fun t => by simp [sendableWords, softResetWord], fun _ => rfl⟩
  | cmdHeaterOn => exact ⟨fun _ => heaterOnWord, fun t => by simp [sendableWords, heaterOnWord], fun _ => rfl⟩
  | cmdHeaterOff => exact ⟨fun _ => heaterOffWord, fun t => by simp [sendableWords, heaterOffWord], fun _ => rfl⟩
  | cmdBreak => exact ⟨fun _ => breakWord, fun t => by simp [sendableWords, breakWord], fun _ => rfl⟩
  | cmdSsLow => exact ⟨fun _ => ssCmd .low, fun t => ssCmd_mem_sendableWords t _, fun _ => rfl⟩
  | cmdSsMedium => exact ⟨fun _ => ssCmd .medium, fun t => ssCmd_mem_sendableWords t _, fun _ => rfl⟩
  | cmdSsHigh => exact ⟨fun _ => ssCmd .high, fun t => ssCmd_mem_sendableWords t _, fun _ => rfl⟩
  | cmdPerHz05Low => exact ⟨(perCmd · .hz05 .low), fun t => perCmd_mem_sendableWords t _ _, fun _ => rfl⟩
  | cmdPerHz05Medium => exact ⟨(perCmd · .hz05 .medium), fun t => perCmd_mem_sendableWords t _ _, fun _ => rfl⟩
  | cmdPerHz05High => exact ⟨(perCmd · .hz05 .high), fun t => perCmd_mem_sendableWords t _ _, fun _ => rfl⟩
  | cmdPerHz1Low => exact ⟨(perCmd · .hz1 .low), fun t => perCmd_mem_sendableWords t _ _, fun _ => rfl⟩
  | cmdPerHz1Medium => exact ⟨(perCmd · .hz1 .medium), fun t => perCmd_mem_sendableWords t _ _, fun _ => rfl⟩
  | cmdPerHz1High => exact ⟨(perCmd · .hz1 .high), fun t => perCmd_mem_sendableWords t _ _, fun _ => rfl⟩
  | cmdPerHz2Low => exact ⟨(perCmd · .hz2 .low), fun t => perCmd_mem_sendableWords t _ _, fun _ => rfl⟩
  | cmdPerHz2Medium => exact ⟨(perCmd · .hz2 .medium), fun t => perCmd_mem_sendableWords t _ _, fun _ => rfl⟩
  | cmdPerHz2High => exact ⟨(perCmd · .hz2 .high), fun t => perCmd_mem_sendableWords t _ _, fun _ => rfl⟩
  | cmdPerHz4Low => exact ⟨(perCmd · .hz4 .low), fun t => perCmd_mem_sendableWords t _ _, fun _ => rfl⟩
  | cmdPerHz4Medium => exact ⟨(perCmd · .hz4 .medium), fun t => perCmd_mem_sendableWords t _ _, fun _ => rfl⟩
  | cmdPerHz4High => exact ⟨(perCmd · .hz4 .high), fun t => perCmd_mem_sendableWords t _ _, fun _ => rfl⟩
  | cmdPerHz10Low => exact ⟨(perCmd · .hz10 .low), fun t => perCmd_mem_sendableWords t _ _, fun _ => rfl⟩
  | cmdPerHz10Medium => exact ⟨(perCmd · .hz10 .medium), fun t => perCmd_mem_sendableWords t _ _, fun _ => rfl⟩
  | cmdPerHz10High => exact ⟨(perCmd · .hz10 .high), fun t => perCmd_mem_sendableWords t _ _, fun _ => rfl⟩
  | _ => cases h

/-- An emission always answers a next state: quietly, once its write has gone as it did. -/
theorem emit_next (w : Half) (s : State) : ∃ t, emit w s = .next t ∧ Quiet (sendCmd w s).final t := by
  unfold emit
  cases sendCmd w s with
  | ok a t => exact ⟨t, rfl, .refl t⟩
  | raise e t => exact ⟨_, rfl, quiet_respond t _ _ _ _⟩
  | hang t => exact ⟨_, rfl, quiet_block t⟩

/-! ### What every instruction and every step do to the state -/

/-- The instructions that write MODE, REP or RATE (R107). -/
def SetsMode (i : Instr) : Prop :=
  (∃ rep, i = .startSs rep) ∨ (∃ rep rate, i = .startPer rep rate) ∨ i = .softReset ∨ i = .sendBreak

theorem answer_effect {k : Nat} {setter : Prop} {s : State} {x : Flow Result} (hk : k ≤ 3)
    (h : Effect k setter s x.final) : ∃ t, answer x = .next t ∧ Effect 3 setter s t :=
  ⟨_, rfl, (h.trans (quiet_complete x).effect).mono hk⟩

theorem exec_command_effect {i : Instr} {setter : Prop} (h : isOperation i = false) (s : State) :
    ∃ t, exec i s = .next t ∧ Effect 3 setter s t := by
  obtain ⟨word, hword, hexec⟩ := exec_eq_emit h
  obtain ⟨t, ht, hquiet⟩ := emit_next (word s.params.perCmd) s
  exact ⟨t, (hexec s).trans ht, ((effect_sendCmd (hword _)).trans hquiet.effect).mono (by decide)⟩

/-- Whatever the instruction and the transport's answers: it answers a next state, at most three legal events later,
and only those that set the mode write MODE, REP or RATE. -/
theorem exec_effect (i : Instr) (s : State) : ∃ t, exec i s = .next t ∧ Effect 3 (SetsMode i) s t := by
  cases i with
  | crc8 seed poly din => exact answer_effect (Nat.zero_le 3) (quiet_crc8Flow seed poly din s).effect
  | validate din => exact answer_effect (Nat.zero_le 3) (quiet_validateFlow din s).effect
  | startSs rep => exact answer_effect (by decide) (effect_startSsFlow (.inl ⟨rep, rfl⟩) rep s)
  | startPer rep rate =>
    exact answer_effect (by decide) (effect_startPerFlow (.inr (.inl ⟨rep, rate, rfl⟩)) rep rate s)
  | getCycle preferMin => exact answer_effect (Nat.zero_le 3) (quiet_getCycleFlow preferMin s).effect
  | readMeas => exact answer_effect (by decide) (effect_readMeasFlow s)
  | iterNext => exact answer_effect (by decide) (effect_iterNextFlow s)
  | getId =>
    exact answer_effect (by decide) (effect_commandedReadout (by simp [sendableWords, readIdWord]) (.inr rfl) decodeId)
  | getStatus =>
    exact answer_effect (by decide)
      (effect_commandedReadout (by simp [sendableWords, readStatusWord]) (.inl rfl) decodeStatus)
  | softReset =>
    have hset : SetsMode .softReset := .inr (.inr (.inl rfl))
    exact answer_effect (by decide) (effect_sendThen_setMode_idle hset (by simp [sendableWords, softResetWord]))
  | setHeater on =>
    have hw : (if on then heaterOnWord else heaterOffWord) ∈ sendableWords s.params.perCmd := by
      cases on <;> simp [sendableWords, heaterOnWord, heaterOffWord]
    exact answer_effect (by decide) (effect_sendThen hw fun t => (Quiet.refl t).effect)
  | sendBreak =>
    have hset : SetsMode .sendBreak := .inr (.inr (.inr rfl))
    exact answer_effect (by decide) (effect_sendThen_setMode_idle hset (by simp [sendableWords, breakWord]))
  | _ => exact exec_command_effect rfl s

end Sys2Proof.Machine

/-! SUPPORT. One step and a run: what can have happened, and what is kept. -/

namespace Sys2Proof.Machine

/-! ### One step -/

/-- A waiting block runs the head of its inbox (R17, R50). -/
theorem step_of_cons {s : State} {input : Input} {rest : List Input} (hseq : s.seq = .idle)
    (hin : s.inbox = input :: rest) : step s = runInput input s.dropInput := by
  simp only [step, hseq, hin]

theorem step_of_nil {s : State} (hseq : s.seq = .idle) (hin : s.inbox = []) : step s = .next s := by
  simp only [step, hseq, hin]

theorem runInput_of_decode {input : Input} {i : Instr} (h : decode input = .ok i) (s : State) :
    runInput input s = exec i s := by
  simp only [runInput, h]

/-- What a step that leads to a next state has done: it waited, ran an instruction, or answered a reserved request. -/
theorem step_next_cases {s t : State} (h : step s = .next t) :
    (s.inbox = [] ∧ t = s) ∨ (∃ i, exec i s.dropInput = .next t) ∨ t = answerIllegal s.dropInput := by
  cases hseq : s.seq with
  | blocked => simp [step, hseq] at h
  | idle =>
    cases hin : s.inbox with
    | nil =>
      rw [step_of_nil hseq hin] at h
      exact .inl ⟨rfl, (Host.Outcome.next.inj h).symm⟩
    | cons input rest =>
      rw [step_of_cons hseq hin] at h
      cases hdec : decode input with
      | ok i => exact .inr (.inl ⟨i, runInput_of_decode hdec _ ▸ h⟩)
      | error e =>
        cases input with
        | request w din => exact .inr (.inr (by simpa [runInput, hdec, eq_comm] using h))
        | command w => simp [runInput, hdec] at h

/-- Whatever a step does, seen from the state whose first pending request has been taken. -/
theorem step_effect {s t : State} (h : step s = .next t) : Effect 3 True s.dropInput t := by
  obtain ⟨hin, rfl⟩ | ⟨i, hexec⟩ | rfl := step_next_cases h
  · have hdrop : t.dropInput = t := by rw [State.dropInput, hin, List.tail_nil, ← hin]
    rw [hdrop]
    exact (Quiet.refl t).effect.mono (Nat.zero_le 3)
  · obtain ⟨u, hu, heffect⟩ := exec_effect i s.dropInput
    obtain rfl := Host.Outcome.next.inj (hexec.symm.trans hu)
    exact { heffect with mode := heffect.mode.imp_right fun hset => ⟨trivial, hset.2⟩ }
  · exact (quiet_respond s.dropInput _ _ _ _).effect.mono (Nat.zero_le 3)

theorem step_keeps_inv {s t : State} (hinv : s.Inv) (h : step s = .next t) : t.Inv := by
  obtain ⟨hheld, hwf⟩ := hinv
  refine ⟨?_, (step_effect h).fb_wf hwf⟩
  obtain hsame | ⟨-, hset⟩ := (step_effect h).mode
  · exact (modeRegistersHeld_of_sameMode hsame).trans hheld
  · exact hset

theorem step_keeps_historyLegal {s t : State} (hlegal : s.HistoryLegal) (h : step s = .next t) : t.HistoryLegal := by
  obtain ⟨new, hnew, -, hnewLegal⟩ := (step_effect h).events
  have hparams : t.params = s.params := (step_effect h).settings.2
  rw [State.HistoryLegal, hnew, hparams]
  exact List.forall_mem_append.mpr ⟨hlegal, hnewLegal⟩

theorem inv_resetWith (c : Bool) (p : Params) : (State.resetWith c p).Inv := ⟨rfl, State.resetWith_fb_wf c p⟩

theorem historyLegal_resetWith (c : Bool) (p : Params) : (State.resetWith c p).HistoryLegal :=
  fun _ he => absurd he List.not_mem_nil

/-- A run of some steps is one step and a run of the others. -/
theorem run_succ_next {M : Host.Core} {n : Nat} {s t : M.State} (h : M.run (n + 1) s = .next t) :
    ∃ u, M.step s = .next u ∧ M.run n u = .next t := by
  unfold Host.Core.run at h
  split at h
  · exact ⟨_, ‹_›, h⟩
  · cases h
  · cases h

/-- What every step keeps, every run keeps. -/
theorem run_keeps {P : State → Prop} (hstep : ∀ s t, P s → step s = .next t → P t) {n : Nat} {s t : State}
    (hs : P s) (hrun : core.run n s = .next t) : P t := by
  induction n generalizing s with
  | zero => exact Host.Outcome.next.inj hrun ▸ hs
  | succ n ih =>
    obtain ⟨u, hu, hrest⟩ := run_succ_next hrun
    exact ih (hstep s u hs hu) hrest

/-- What holds of every state of a run from a reset with these parameters. -/
def HoldsFromReset (c : Bool) (p : Params) (s : State) : Prop :=
  s.checkEn = c ∧ s.params = p ∧ s.Inv ∧ s.HistoryLegal

theorem step_keeps_holdsFromReset {c : Bool} {p : Params} {s t : State} (hs : HoldsFromReset c p s)
    (h : step s = .next t) : HoldsFromReset c p t := by
  obtain ⟨hcheck, hparams, hinv, hlegal⟩ := hs
  obtain ⟨hcheck', hparams'⟩ := (step_effect h).settings
  exact ⟨hcheck'.trans hcheck, hparams'.trans hparams, step_keeps_inv hinv h, step_keeps_historyLegal hlegal h⟩

end Sys2Proof.Machine

/-! SUPPORT. CHECK_EN never shows on the bus (R14, R143): the transport's primitives commute with a change of it, and
the check of a frame is quiet. -/

namespace Sys2Proof.Machine

/-! ### CHECK_EN never shows on the bus -/

/-- The state with another CHECK_EN. -/
def State.withCheckEn (s : State) (c : Bool) : State := { s with checkEn := c }

/-- The same outcome in the state with another CHECK_EN. -/
def Flow.withCheckEn {α : Type} (c : Bool) : Flow α → Flow α
  | .ok a s => .ok a (s.withCheckEn c)
  | .raise e s => .raise e (s.withCheckEn c)
  | .hang s => .hang (s.withCheckEn c)

theorem Flow.final_withCheckEn {α : Type} (c : Bool) (x : Flow α) :
    (x.withCheckEn c).final = x.final.withCheckEn c := by
  cases x <;> rfl

theorem sameBus_withCheckEn (s : State) (c : Bool) : SameBus s (s.withCheckEn c) := ⟨⟨rfl, rfl⟩, rfl, rfl, rfl⟩

theorem sendCmd_withCheckEn (w : Half) (s : State) (c : Bool) :
    sendCmd w (s.withCheckEn c) = (sendCmd w s).withCheckEn c := by
  cases h : s.nextAnswer with
  | returned b => rw [sendCmd_returned h, sendCmd_returned (s := s.withCheckEn c) h]; rfl
  | failed => rw [sendCmd_failed h, sendCmd_failed (s := s.withCheckEn c) h]; rfl
  | never => rw [sendCmd_never h, sendCmd_never (s := s.withCheckEn c) h]; rfl

theorem busReadReg_withCheckEn (n : Nat) (s : State) (c : Bool) :
    busReadReg n (s.withCheckEn c) = (busReadReg n s).withCheckEn c := by
  cases h : s.nextAnswer with
  | returned b => rw [busReadReg_returned h, busReadReg_returned (s := s.withCheckEn c) h]; rfl
  | failed => rw [busReadReg_failed h, busReadReg_failed (s := s.withCheckEn c) h]; rfl
  | never => rw [busReadReg_never h, busReadReg_never (s := s.withCheckEn c) h]; rfl

/-- The steps end alike on the bus from two states that differ only in CHECK_EN. -/
def HidesCheckEn {α : Type} (f : State → Flow α) : Prop :=
  ∀ s c, SameBus (f s).final (f (s.withCheckEn c)).final

theorem sameBus_of_quiet {s t t' : State} {c : Bool} (h : Quiet s t) (h' : Quiet (s.withCheckEn c) t') :
    SameBus t t' := (h.bus.symm.trans (sameBus_withCheckEn s c)).trans h'.bus

theorem hidesCheckEn_of_quiet {α : Type} {f : State → Flow α} (h : ∀ s, Quiet s (f s).final) : HidesCheckEn f :=
  fun s c => sameBus_of_quiet (h s) (h (s.withCheckEn c))

theorem sameBus_bind_withCheckEn {α β : Type} {f : α → State → Flow β} (hf : ∀ a, HidesCheckEn (f a)) (x : Flow α)
    (c : Bool) : SameBus (x.bind f).final ((x.withCheckEn c).bind f).final := by
  cases x with
  | ok a t => exact hf a t c
  | raise e t => exact sameBus_withCheckEn t c
  | hang t => exact sameBus_withCheckEn t c

/-- A command goes out before any check; what follows it is all that could show CHECK_EN. -/
theorem sameBus_sendCmd_bind {β : Type} {f : Unit → State → Flow β} (hf : HidesCheckEn (f ())) (w : Half) (s : State)
    (c : Bool) : SameBus ((sendCmd w s).bind f).final ((sendCmd w (s.withCheckEn c)).bind f).final := by
  rw [sendCmd_withCheckEn]
  exact sameBus_bind_withCheckEn (fun _ => hf) _ c

/-- The check of a frame comes after its read and shows only in the registers it drops (R143). -/
theorem hidesCheckEn_readout (n : Nat) (dec : Memory → Result) : HidesCheckEn (readout n dec) := by
  intro s c
  unfold readout
  rw [busReadReg_withCheckEn]
  exact sameBus_bind_withCheckEn (fun bytes => hidesCheckEn_of_quiet fun t =>
    (quiet_loadFrame t bytes).trans (quiet_decodeLoaded n dec _)) _ c

theorem hidesCheckEn_commandedReadout (w : Half) (n : Nat) (dec : Memory → Result) :
    HidesCheckEn (commandedReadout w n dec) :=
  sameBus_sendCmd_bind (fun t c => hidesCheckEn_readout n dec (sleep settleUs t) c) w

theorem hidesCheckEn_readMeasFlow : HidesCheckEn readMeasFlow := by
  intro s c
  by_cases h : s.mode = .periodic
  · rw [readMeasFlow_of_periodic h, readMeasFlow_of_periodic (s := s.withCheckEn c) h]
    exact sameBus_sendCmd_bind (hidesCheckEn_readout 6 decodeMeas) fetchWord s c
  · rw [readMeasFlow_of_not_periodic h, readMeasFlow_of_not_periodic (s := s.withCheckEn c) h]
    exact hidesCheckEn_readout 6 decodeMeas s c

theorem hidesCheckEn_iterNextFlow : HidesCheckEn iterNextFlow := by
  intro s c
  by_cases h : s.mode = .periodic
  · rw [iterNextFlow_of_periodic h, iterNextFlow_of_periodic (s := s.withCheckEn c) h]
    exact hidesCheckEn_readMeasFlow s c
  · rw [iterNextFlow_of_not_periodic h, iterNextFlow_of_not_periodic (s := s.withCheckEn c) h]
    exact sameBus_withCheckEn s c

theorem sameBus_sendThen {rest : State → State} (hrest : ∀ t c, SameBus (rest t) (rest (t.withCheckEn c))) (w : Half)
    (s : State) (c : Bool) : SameBus (sendThen w rest s).final (sendThen w rest (s.withCheckEn c)).final :=
  sameBus_sendCmd_bind (f := fun _ t => .ok Result.nothing (rest t)) hrest w s c

theorem hidesCheckEn_sendThen_setMode_idle (w : Half) : HidesCheckEn (sendThen w fun t => t.setMode .idle) :=
  sameBus_sendThen (fun t c => sameBus_withCheckEn (t.setMode .idle) c) w

theorem hidesCheckEn_startSsFlow (rep : Nat) : HidesCheckEn (startSsFlow rep) := by
  intro s c
  unfold startSsFlow
  cases repOf rep with
  | none => exact sameBus_withCheckEn s c
  | some r => exact sameBus_sendThen (fun t c => sameBus_withCheckEn ((t.setMode .singleShot).setRep r) c) _ s c

theorem hidesCheckEn_startPerFlow (rep rate : Nat) : HidesCheckEn (startPerFlow rep rate) := by
  intro s c
  unfold startPerFlow
  cases repOf rep with
  | none => exact sameBus_withCheckEn s c
  | some r =>
    cases rateOf rate with
    | none => exact sameBus_withCheckEn s c
    | some q =>
      exact sameBus_sendThen (fun t c => sameBus_withCheckEn (((t.setMode .periodic).setRep r).setRate q) c) _ s c

/-- Two runs of an instruction, from states that differ only in CHECK_EN, end alike on the bus. -/
def ExecHidesCheckEn (i : Instr) : Prop :=
  ∀ s c t t', exec i s = .next t → exec i (s.withCheckEn c) = .next t' → SameBus t t'

theorem execHidesCheckEn_of_answer {i : Instr} {flow : State → Flow Result} (hi : exec i = fun s => answer (flow s))
    (h : HidesCheckEn flow) : ExecHidesCheckEn i := by
  rw [ExecHidesCheckEn, hi]
  rintro s c _ _ ⟨⟩ ⟨⟩
  exact ((quiet_complete _).bus.symm.trans (h s c)).trans (quiet_complete _).bus

theorem execHidesCheckEn_of_command {i : Instr} (hi : isOperation i = false) : ExecHidesCheckEn i := by
  obtain ⟨word, -, hexec⟩ := exec_eq_emit hi
  intro s c t t' ht ht'
  obtain ⟨u, hu, hquiet⟩ := emit_next (word s.params.perCmd) s
  obtain ⟨u', hu', hquiet'⟩ := emit_next (word s.params.perCmd) (s.withCheckEn c)
  obtain rfl := Host.Outcome.next.inj (ht.symm.trans ((hexec s).trans hu))
  obtain rfl := Host.Outcome.next.inj (ht'.symm.trans ((hexec (s.withCheckEn c)).trans hu'))
  have hsent : (sendCmd (word s.params.perCmd) (s.withCheckEn c)).final =
      (sendCmd (word s.params.perCmd) s).final.withCheckEn c := by
    rw [sendCmd_withCheckEn, Flow.final_withCheckEn]
  exact sameBus_of_quiet hquiet (hsent ▸ hquiet')

theorem execHidesCheckEn (i : Instr) : ExecHidesCheckEn i := by
  cases i with
  | crc8 seed poly din => exact execHidesCheckEn_of_answer rfl (hidesCheckEn_of_quiet (quiet_crc8Flow seed poly din))
  | validate din => exact execHidesCheckEn_of_answer rfl (hidesCheckEn_of_quiet (quiet_validateFlow din))
  | startSs rep => exact execHidesCheckEn_of_answer rfl (hidesCheckEn_startSsFlow rep)
  | startPer rep rate => exact execHidesCheckEn_of_answer rfl (hidesCheckEn_startPerFlow rep rate)
  | getCycle preferMin =>
    exact execHidesCheckEn_of_answer rfl (hidesCheckEn_of_quiet (quiet_getCycleFlow preferMin))
  | readMeas => exact execHidesCheckEn_of_answer rfl hidesCheckEn_readMeasFlow
  | iterNext => exact execHidesCheckEn_of_answer rfl hidesCheckEn_iterNextFlow
  | getId => exact execHidesCheckEn_of_answer rfl (hidesCheckEn_commandedReadout readIdWord 6 decodeId)
  | getStatus => exact execHidesCheckEn_of_answer rfl (hidesCheckEn_commandedReadout readStatusWord 3 decodeStatus)
  | softReset => exact execHidesCheckEn_of_answer rfl (hidesCheckEn_sendThen_setMode_idle softResetWord)
  | setHeater on => exact execHidesCheckEn_of_answer rfl (sameBus_sendThen sameBus_withCheckEn _)
  | sendBreak => exact execHidesCheckEn_of_answer rfl (hidesCheckEn_sendThen_setMode_idle breakWord)
  | _ => exact execHidesCheckEn_of_command rfl

end Sys2Proof.Machine

/-! SUPPORT. GET_CYCLE (R104). -/

namespace Sys2Proof.Machine

theorem getCycleFlow_idle {s : State} (h : s.mode = .idle) (preferMin : Bool) :
    getCycleFlow preferMin s = .raise (.unsupportedOperation .idle) s := by
  simp only [getCycleFlow, h]

theorem getCycleFlow_singleShot {s : State} (h : s.mode = .singleShot) (preferMin : Bool) :
    getCycleFlow preferMin s = cycleResult (s.rep.map (if preferMin then ssMinUs else ssMaxUs)) s := by
  simp only [getCycleFlow, h]

theorem getCycleFlow_periodic {s : State} (h : s.mode = .periodic) (preferMin : Bool) :
    getCycleFlow preferMin s = cycleResult (s.rate.map perUs) s := by
  simp only [getCycleFlow, h]

/-- A cycle time is looked up with no working register, and always answered. -/
theorem complete_cycleResult_working (us : Option Nat) (s : State) :
    SameWorking s (complete (cycleResult us s)) ∧ (complete (cycleResult us s)).seq = .idle := by
  cases us with
  | none => exact ⟨⟨rfl, fun _ => rfl, rfl⟩, rfl⟩
  | some n => exact ⟨⟨rfl, fun _ => rfl, rfl⟩, rfl⟩

theorem complete_getCycleFlow_working (preferMin : Bool) (s : State) :
    SameWorking s (complete (getCycleFlow preferMin s)) ∧ (complete (getCycleFlow preferMin s)).seq = .idle := by
  unfold getCycleFlow
  split
  · exact ⟨⟨rfl, fun _ => rfl, rfl⟩, rfl⟩
  · exact complete_cycleResult_working _ s
  · exact complete_cycleResult_working _ s

/-- A cycle time of the tables ends in R0 as it is. -/
theorem complete_cycleResult_some_r0 {n : Nat} (hn : n < 2 ^ 32) (s : State) :
    (complete (cycleResult (some n) s)).rsp.r0.toNat = n :=
  Nat.mod_eq_of_lt (show n < 2 ^ 48 by omega)

/-- A cycle time, or the free number in its place, ends OK and stays within 32 bits. -/
theorem complete_cycleResult_ok {us : Option Nat} (hus : ∀ n ∈ us, n < 2 ^ 32) (s : State) :
    (complete (cycleResult us s)).rsp.status = .ok ∧ (complete (cycleResult us s)).rsp.r0.toNat < 2 ^ 32 := by
  cases us with
  | none =>
    refine ⟨rfl, ?_⟩
    show ((Config.freeCycle s.fresh).setWidth 48).toNat < 2 ^ 32
    rw [BitVec.toNat_setWidth_of_le (by decide)]
    exact (Config.freeCycle s.fresh).isLt
  | some n => exact ⟨rfl, (complete_cycleResult_some_r0 (hus n rfl) s).symm ▸ hus n rfl⟩

theorem singleShotUs_lt (preferMin : Bool) (r : Rep) : (if preferMin then ssMinUs else ssMaxUs) r < 2 ^ 32 := by
  cases preferMin <;> cases r <;> decide

theorem perUs_lt (q : Rate) : perUs q < 2 ^ 32 := by
  cases q <;> decide

theorem forall_mem_map_lt {α : Type} {f : α → Nat} {b : Nat} (hf : ∀ a, f a < b) (o : Option α) :
    ∀ n ∈ o.map f, n < b := by
  intro n hn
  obtain ⟨a, -, rfl⟩ := Option.mem_map.mp hn
  exact hf a

end Sys2Proof.Machine

/-! The obligations on the state, the step and GET_CYCLE, settled. -/

namespace Sys2Proof.Machine

/-- Settles O8: the head of the inbox decodes, so runInput is exec of it. -/
theorem stepRunsTheDecodedInstruction : Obligations.StepRunsTheDecodedInstruction := by
  intro s input rest i hseq hin hdec
  have hdrop : s.dropInput = { s with inbox := rest } := by rw [State.dropInput, hin, List.tail_cons]
  rw [step_of_cons hseq hin, runInput_of_decode hdec, hdrop]

/-- Settles O10. -/
theorem stepWaitsForARequest : Obligations.StepWaitsForARequest := fun _ hseq hin => step_of_nil hseq hin

/-- Settles O12: no operation touches the inbox, so only the request taken is gone. -/
theorem stepTakesOneRequest : Obligations.StepTakesOneRequest := fun _ _ h => (step_effect h).inbox

/-- Settles O14. -/
theorem invariantsHoldAfterReset : Obligations.InvariantsHoldAfterReset :=
  fun c p => ⟨inv_resetWith c p, historyLegal_resetWith c p⟩

/-- Settles O15: a step keeps the mode registers or sets them to hold what the new mode needs. -/
theorem stepKeepsSelectorsAndFrameBufferForm : Obligations.StepKeepsSelectorsAndFrameBufferForm :=
  fun _ _ => step_keeps_inv

/-- Settles O17: the longest operation is a command, a sleep and a read. -/
theorem stepExtendsHistoryAndKeepsSettings : Obligations.StepExtendsHistoryAndKeepsSettings := by
  intro s t h
  obtain ⟨new, hnew, hlen, -⟩ := (step_effect h).events
  exact ⟨⟨new, hnew, hlen⟩, (step_effect h).settings⟩

/-- Settles O18, by induction on the steps: reset meets all of it and every step keeps it. -/
theorem runFromResetKeepsParameters : Obligations.RunFromResetKeepsParameters := by
  intro n c p requests script t hrun
  refine run_keeps (P := HoldsFromReset c p) (fun _ _ => step_keeps_holdsFromReset) ?_ hrun
  exact ⟨rfl, rfl, inv_resetWith c p, historyLegal_resetWith c p⟩

/-- Settles O19: by the effect of each instruction. -/
theorem onlyModeSettersWriteTheModeRegisters : Obligations.OnlyModeSettersWriteTheModeRegisters := by
  intro i s
  obtain ⟨t, ht, heffect⟩ := exec_effect i s
  refine ⟨t, ht, heffect.settings, fun hss hper hreset hbreak => ?_⟩
  obtain hsame | ⟨⟨rep, hi⟩ | ⟨rep, rate, hi⟩ | hi | hi, -⟩ := heffect.mode
  · exact hsame
  · exact absurd hi (hss rep)
  · exact absurd hi (hper rep rate)
  · exact absurd hi hreset
  · exact absurd hi hbreak

/-- Settles O22: every call of an operation comes before its check of the frame. -/
theorem checkEnableNeverShowsOnTheBus : Obligations.CheckEnableNeverShowsOnTheBus := by
  intro i s t t' c ht ht'
  obtain ⟨⟨hevents, hanswers⟩, hmode⟩ := execHidesCheckEn i s c t t' ht ht'
  exact ⟨hevents, hanswers, hmode⟩

/-- Settles O27, from the tables of codes. -/
theorem registerAndStatusCodes : Obligations.RegisterAndStatusCodes :=
  ⟨⟨rfl, rfl, rfl, rfl, rfl, rfl⟩, ⟨rfl, rfl, rfl⟩, ⟨rfl, rfl, rfl⟩, rfl, rfl, rfl, rfl, rfl⟩

/-- Settles O35, by MODE. -/
theorem getCycleMeaning : Obligations.GetCycleMeaning := by
  refine ⟨fun w din hw => ?_, fun s preferMin => ⟨complete (getCycleFlow preferMin s), rfl, ?_⟩⟩
  · rw [← reqFlag_eq]
    exact decodeRequest_of_match hw rfl rfl
  obtain ⟨⟨htransport, hmode⟩, hset, hin, -⟩ := (quiet_getCycleFlow preferMin s).trans (quiet_complete _)
  obtain ⟨hwork, hseq⟩ := complete_getCycleFlow_working preferMin s
  refine ⟨htransport, hmode, hset, hwork, hin, hseq, fun hidle => ?_, fun hne => ?_, ?_, ?_⟩
  · rw [getCycleFlow_idle hidle]
    exact ⟨rfl, packInfo_toNat_mod 0 0 _⟩
  · cases hm : s.mode with
    | idle => exact absurd hm hne
    | singleShot =>
      rw [getCycleFlow_singleShot hm]
      exact complete_cycleResult_ok (forall_mem_map_lt (singleShotUs_lt preferMin) _) s
    | periodic =>
      rw [getCycleFlow_periodic hm]
      exact complete_cycleResult_ok (forall_mem_map_lt perUs_lt _) s
  · intro hm r lo hi hrep hmem
    have htable : (if preferMin then ssMinUs else ssMaxUs) r = if preferMin then lo else hi := by
      simp only [List.mem_cons, Prod.mk.injEq, List.not_mem_nil, or_false] at hmem
      rcases hmem with ⟨rfl, rfl, rfl⟩ | ⟨rfl, rfl, rfl⟩ | ⟨rfl, rfl, rfl⟩ <;> cases preferMin <;> rfl
    rw [getCycleFlow_singleShot hm, hrep, Option.map_some, ← htable]
    exact complete_cycleResult_some_r0 (singleShotUs_lt preferMin r) s
  · intro hm q us hrate hmem
    have htable : perUs q = us := by
      simp only [List.mem_cons, Prod.mk.injEq, List.not_mem_nil, or_false] at hmem
      rcases hmem with ⟨rfl, rfl⟩ | ⟨rfl, rfl⟩ | ⟨rfl, rfl⟩ | ⟨rfl, rfl⟩ | ⟨rfl, rfl⟩ <;> rfl
    rw [getCycleFlow_periodic hm, hrate, Option.map_some, ← htable]
    exact complete_cycleResult_some_r0 (perUs_lt q) s

/-- Settles O49: the addresses of a frame are distinct, so no byte of it is written over. -/
theorem loadedFrameReadsBack : Obligations.LoadedFrameReadsBack := by
  intro s bytes hlen
  refine ⟨fun i hi => Memory.read_storeFrame_of_lt s.fb hi, fun i hi => s.read_loadFrame_of_le hi, ?_⟩
  rw [State.loadFrame_flen, BitVec.toNat_ofNat]
  exact Nat.mod_eq_of_lt (by omega)

end Sys2Proof.Machine

/-! SUPPORT. A readout whose bytes are accepted, and the commanded readouts GET_ID and GET_STATUS (R125, R126). -/

namespace Sys2Proof.Machine

/-! ### A readout that ends with its result -/

/-- From s to t one read of n bytes has been made, which returned the first n bytes of b; the registers it may have
written are FB[0..n-1], FLEN and, where the frame is checked, ACC (R32, R143). -/
structure ReadMade (n : Nat) (b : Bytes6) (s t : State) : Prop where
  events : t.events = s.events ++ [.read s.params.devAddr 0 n (firstBytes n b)]
  answers : t.answers = s.answers.tail
  mode : SameMode s t
  settings : SameSettings s t
  inbox : t.inbox = s.inbox
  fb_above : ∀ i : Fin 6, n ≤ i.val → t.fb.read i = s.fb.read i
  acc : s.checkEn = false → t.acc = s.acc

theorem readMade_dropWorking {n : Nat} (hn : n = 3 ∨ n = 6) (b : Bytes6) {s : State} {acc : Byte}
    (hacc : s.checkEn = false → acc = s.acc) :
    ReadMade n b s (dropWorking n s.checkEn ((afterRead n b s).setAcc acc)) where
  events := by simp
  answers := by simp
  mode := by simp [SameMode]
  settings := by simp [SameSettings]
  inbox := by simp
  fb_above i hi := by
    rw [read_dropWorking_of_le _ _ _ hi, State.setAcc_fb, afterRead_fb]
    exact Memory.read_storeFrame_of_le _ _ (by rwa [length_firstBytes hn])
  acc hc := by rw [hc, dropWorking_false_acc, State.setAcc_acc, hacc hc]

section
variable {s : State} {b : Bytes6}

/-- Six bytes read, with good checksums or not checked, are decoded (R124, R125, R143). -/
theorem readout_six_ok (hb : s.nextAnswer = .returned b) (hgood : s.checkEn = true → FrameGood b)
    (dec : Memory → Result) :
    ∃ t, readout 6 dec s = .ok (dec (s.fb.storeFrame (firstBytes 6 b))) t ∧ ReadMade 6 b s t := by
  obtain ⟨acc, hdecode, hacc⟩ := decodeLoaded_six_ok
    (s := s.dropAnswer.logEvent (.read s.params.devAddr 0 6 (firstBytes 6 b))) dec
    fun hc => (hgood hc).imp Eq.symm Eq.symm
  exact ⟨_, (readout_returned hb 6 dec).trans hdecode, readMade_dropWorking (.inr rfl) b hacc⟩

/-- Three bytes read, with a good checksum or not checked, are decoded (R126, R143). -/
theorem readout_three_ok (hb : s.nextAnswer = .returned b)
    (hgood : s.checkEn = true → b.b2 = crc8 [b.b0, b.b1] 0xFF 0x31) (dec : Memory → Result) :
    ∃ t, readout 3 dec s = .ok (dec (s.fb.storeFrame (firstBytes 3 b))) t ∧ ReadMade 3 b s t := by
  obtain ⟨acc, hdecode, hacc⟩ := decodeLoaded_three_ok
    (s := s.dropAnswer.logEvent (.read s.params.devAddr 0 3 (firstBytes 3 b))) dec fun hc => (hgood hc).symm
  exact ⟨_, (readout_returned hb 3 dec).trans hdecode, readMade_dropWorking (.inl rfl) b hacc⟩

end

/-! ### The read that follows a command and its settling time -/

/-- The state in which a command has been sent and the device has settled (R33, R80). -/
def afterSettling (w : Half) (s : State) : State :=
  sleep settleUs (s.dropAnswer.logEvent (.write s.params.devAddr (commandBytes w)))

theorem commandedReadout_returned {s : State} {a : Bytes6} (ha : s.nextAnswer = .returned a) (w : Half) (n : Nat)
    (dec : Memory → Result) : commandedReadout w n dec s = readout n dec (afterSettling w s) := by
  rw [commandedReadout, sendCmd_returned ha, Flow.bind_ok, afterSettling]

/-- The history of a commanded readout: its command, its sleep and its read, in order (R125, R126). -/
theorem ReadMade.events_afterSettling {w : Half} {n : Nat} {b : Bytes6} {s t : State}
    (h : ReadMade n b (afterSettling w s) t) :
    t.events = s.events ++ [.write s.params.devAddr (commandBytes w), .sleep 500,
      .read s.params.devAddr 0 n (firstBytes n b)] := by
  rw [h.events]
  simp [afterSettling, sleep, settleUs]

/-- A commanded readout that ends with a result answers OK with it. -/
theorem answer_commandedReadout {s t : State} {a : Bytes6} {w : Half} {n : Nat} {dec : Memory → Result} {r : Result}
    (ha : s.nextAnswer = .returned a) (hread : readout n dec (afterSettling w s) = .ok r t) :
    answer (commandedReadout w n dec s) = .next (respondOk r t) := by
  rw [commandedReadout_returned ha, hread]
  rfl

/-! ### The words in the bytes read -/

/-- toNat_append_byte for a first part of any width, to compose words of more than two bytes (R35). -/
theorem toNat_append_low_byte {k : Nat} (x : BitVec k) (y : Byte) : (x ++ y).toNat = x.toNat * 256 + y.toNat := by
  rw [BitVec.toNat_append, ← Nat.shiftLeft_add_eq_or_of_lt y.isLt, Nat.shiftLeft_eq]

/-- The identifier is the bytes 0, 1, 3 and 4 of the frame, the checksums being left out (R125). -/
theorem decodeId_storeFrame (m : Memory) (b : Bytes6) :
    decodeId (m.storeFrame (firstBytes 6 b)) =
      .value ((b.b0 ++ b.b1 ++ b.b3 ++ b.b4 : BitVec 32).setWidth 48) := by
  simp [decodeId, Memory.read_storeFrame_six]

/-- The status is the bytes 0 and 1 of the frame (R126). -/
theorem decodeStatus_storeFrame (m : Memory) (b : Bytes6) :
    decodeStatus (m.storeFrame (firstBytes 3 b)) = .value ((b.b0 ++ b.b1 : Half).setWidth 48) := by
  simp [decodeStatus, wordAt0, Memory.read_storeFrame_three]

theorem toNat_identifier (b0 b1 b3 b4 : Byte) :
    ((b0 ++ b1 ++ b3 ++ b4 : BitVec 32).setWidth 48).toNat =
      b0.toNat * 2 ^ 24 + b1.toNat * 2 ^ 16 + b3.toNat * 2 ^ 8 + b4.toNat := by
  rw [BitVec.toNat_setWidth_of_le (by decide), toNat_append_low_byte, toNat_append_low_byte, toNat_append_low_byte]
  ring

theorem toNat_status (b0 b1 : Byte) : ((b0 ++ b1 : Half).setWidth 48).toNat = b0.toNat * 256 + b1.toNat := by
  rw [BitVec.toNat_setWidth_of_le (by decide), toNat_append_byte]

end Sys2Proof.Machine

/-! The obligations on the history and on the commanded readouts, settled. -/

namespace Sys2Proof.Machine

/-- Settles O16: all that a step adds to the history is legal, and it writes no parameter. -/
theorem stepKeepsHistoryLegal : Obligations.StepKeepsHistoryLegal := fun _ _ => step_keeps_historyLegal

/-- Settles O53: the read comes after the command and the sleep, and its frame is accepted. -/
theorem getIdentifierMeaning : Obligations.GetIdentifierMeaning := by
  intro s a b ha hb hgood
  obtain ⟨t, hread, hmade⟩ := readout_six_ok (s := afterSettling readIdWord s) hb hgood decodeId
  rw [decodeId_storeFrame] at hread
  exact ⟨_, answer_commandedReadout ha hread, rfl, toNat_identifier .., hmade.events_afterSettling, hmade.answers,
    hmade.mode, hmade.settings, hmade.inbox, rfl, hmade.acc⟩

/-- Settles O54: as for GET_ID, with one sub-frame, so that FB[3..5] is above the bytes written. -/
theorem getStatusMeaning : Obligations.GetStatusMeaning := by
  intro s a b ha hb hgood
  obtain ⟨t, hread, hmade⟩ := readout_three_ok (s := afterSettling readStatusWord s) hb hgood decodeStatus
  rw [decodeStatus_storeFrame] at hread
  exact ⟨_, answer_commandedReadout ha hread, rfl, toNat_status .., hmade.events_afterSettling, hmade.answers,
    hmade.mode, hmade.settings, hmade.inbox, rfl, hmade.fb_above, hmade.acc⟩

end Sys2Proof.Machine

/-! SUPPORT. The fields of a request word: read back from a packed word, as numbers, and from the bits a mask keeps;
then the decoder's value and its failure in terms of them (R51 to R56). -/

namespace Sys2Proof.Machine

/-! ### The fields of a packed word -/

/-- The flag operand is bit 0 of LO (R52). -/
theorem reqFlag_eq_reqLo (w : ReqWord) : reqFlag w = (reqLo w).getLsbD 0 := by
  simp [reqFlag, reqLo]

section
variable (op : BitVec 4) (a b : Byte) (hi lo : BitVec 4)

@[simp] theorem reqLo_packRequest : reqLo (packRequest op a b hi lo) = lo :=
  (BitVec.extractLsb'_append_eq_of_add_le (by decide)).trans BitVec.extractLsb'_eq_self

@[simp] theorem reqHi_packRequest : reqHi (packRequest op a b hi lo) = hi :=
  (BitVec.extractLsb'_append_eq_of_le (by decide)).trans <|
    (BitVec.extractLsb'_append_eq_of_add_le (by decide)).trans BitVec.extractLsb'_eq_self

@[simp] theorem reqB_packRequest : reqB (packRequest op a b hi lo) = b :=
  (BitVec.extractLsb'_append_eq_of_le (by decide)).trans <|
    (BitVec.extractLsb'_append_eq_of_le (by decide)).trans <|
    (BitVec.extractLsb'_append_eq_of_add_le (by decide)).trans BitVec.extractLsb'_eq_self

@[simp] theorem reqA_packRequest : reqA (packRequest op a b hi lo) = a :=
  (BitVec.extractLsb'_append_eq_of_le (by decide)).trans <|
    (BitVec.extractLsb'_append_eq_of_le (by decide)).trans <|
    (BitVec.extractLsb'_append_eq_of_le (by decide)).trans <|
    (BitVec.extractLsb'_append_eq_of_add_le (by decide)).trans BitVec.extractLsb'_eq_self

@[simp] theorem reqFlag_packRequest (f : Bool) : reqFlag (packRequest op a b hi (flagField f)) = f := by
  rw [reqFlag_eq_reqLo, reqLo_packRequest]
  cases f <;> rfl

end

/-- A packed word decodes by its operation code: its RSV is 0 (R53, R64). -/
theorem decodeRequest_packRequest {op : BitVec 4} {a b : Byte} {hi lo : BitVec 4} {din : List Byte} {i : Instr}
    (h : decodeOp op (packRequest op a b hi lo) din = some i) :
    decodeRequest (packRequest op a b hi lo) din = .ok i := by
  have hrsv : reqRsv (op ++ 0#28) = 0 := (BitVec.extractLsb'_append_eq_of_add_le (by decide)).trans rfl
  have hop : reqOp (op ++ 0#28) = op :=
    (BitVec.extractLsb'_append_eq_of_le (by decide)).trans BitVec.extractLsb'_eq_self
  exact decodeRequest_of_match (Laws.EncodingPattern.packRequest_fixed op a b hi lo) hrsv (hop.symm ▸ h)

/-! ### The fields as numbers -/

theorem reqA_eq_ofNat (w : ReqWord) : reqA w = BitVec.ofNat 8 (w.toNat / 65536) :=
  congrArg (BitVec.ofNat 8) (Nat.shiftRight_eq_div_pow w.toNat 16)

theorem reqB_eq_ofNat (w : ReqWord) : reqB w = BitVec.ofNat 8 (w.toNat / 256) :=
  congrArg (BitVec.ofNat 8) (Nat.shiftRight_eq_div_pow w.toNat 8)

theorem toNat_reqLo (w : ReqWord) : (reqLo w).toNat = w.toNat % 16 := rfl

theorem toNat_reqHi (w : ReqWord) : (reqHi w).toNat = w.toNat / 16 % 16 :=
  congrArg (· % 16) (Nat.shiftRight_eq_div_pow w.toNat 4)

theorem toNat_reqRsv (w : ReqWord) : (reqRsv w).toNat = w.toNat / 2 ^ 24 % 16 :=
  congrArg (· % 16) (Nat.shiftRight_eq_div_pow w.toNat 24)

theorem toNat_reqOp (w : ReqWord) : (reqOp w).toNat = w.toNat / 2 ^ 28 := by
  have h : (reqOp w).toNat = w.toNat / 2 ^ 28 % 16 :=
    congrArg (· % 16) (Nat.shiftRight_eq_div_pow w.toNat 28)
  have hlt : w.toNat < 2 ^ 32 := w.isLt
  omega

/-! ### The words that select no operation -/

/-- The reserved request words: RSV is not 0, or OP is 0x0, 0xD, 0xE or 0xF (R54). -/
def ReservedRequest (w : ReqWord) : Prop :=
  w.toNat / 2 ^ 24 % 16 ≠ 0 ∨ w.toNat / 2 ^ 28 ∈ [0x0, 0xD, 0xE, 0xF]

/-- Of the sixteen operation codes four select nothing (R53). -/
theorem decodeOp_eq_none_iff (op : BitVec 4) (w : ReqWord) (din : List Byte) :
    decodeOp op w din = none ↔ op.toNat ∈ [0x0, 0xD, 0xE, 0xF] := by
  have hlt : op.toNat < 16 := op.isLt
  unfold decodeOp
  generalize op.toNat = n at *
  interval_cases n <;> simp

/-- The decoder checks RSV before OP (R54). -/
theorem decodeRequest_error_iff (w : ReqWord) (din : List Byte) :
    (∃ e, decodeRequest w din = .error e) ↔ ReservedRequest w := by
  rw [ReservedRequest, ← toNat_reqRsv, ← toNat_reqOp, ← decodeOp_eq_none_iff (reqOp w) w din]
  by_cases hrsv : reqRsv w = 0
  · cases hop : decodeOp (reqOp w) w din <;> simp [decodeRequest, hrsv, hop]
  · have hne : (reqRsv w).toNat ≠ 0 := fun h => hrsv (BitVec.eq_of_toNat_eq h)
    exact ⟨fun _ => .inl hne, fun _ => ⟨_, if_neg hrsv⟩⟩

/-! ### The bits a mask keeps -/

theorem reqFlag_and (w m : ReqWord) : reqFlag (w &&& m) = (reqFlag w && reqFlag m) := BitVec.getLsbD_and

section
variable {w w' m : ReqWord} (h : w &&& m = w' &&& m)
include h

/-- Words that agree under a mask agree on every field that it covers. -/
theorem extractLsb'_eq_of_and_eq {start len : Nat} (hm : m.extractLsb' start len = BitVec.allOnes len) :
    w.extractLsb' start len = w'.extractLsb' start len := by
  have hfield := congrArg (BitVec.extractLsb' start len) h
  rwa [BitVec.extractLsb'_and, BitVec.extractLsb'_and, hm, BitVec.and_allOnes, BitVec.and_allOnes] at hfield

theorem reqFlag_eq_of_and_eq (hm : reqFlag m = true) : reqFlag w = reqFlag w' := by
  have hflag := congrArg reqFlag h
  rwa [reqFlag_and, reqFlag_and, hm, Bool.and_true, Bool.and_true] at hflag

end

/-- OP and RSV are looked at whatever the operation (R54, R56). -/
theorem usedMask_covers_op_rsv (op : BitVec 4) :
    reqOp (usedMask op) = BitVec.allOnes 4 ∧ reqRsv (usedMask op) = BitVec.allOnes 4 := by
  revert op
  decide

/-- An operation's operands are cut from the bits that its mask keeps, and only CRC8 and VALIDATE keep the payload
(R55, R56). -/
theorem decodeOp_congr {op : BitVec 4} {w w' : ReqWord} {din din' : List Byte}
    (h : w &&& usedMask op = w' &&& usedMask op) (hdin : op.toNat = 1 ∨ op.toNat = 2 → din = din') :
    decodeOp op w din = decodeOp op w' din' := by
  unfold decodeOp
  split
  case h_1 hop =>
    obtain rfl : op = 1 := BitVec.eq_of_toNat_eq hop
    have ha : reqA w = reqA w' := extractLsb'_eq_of_and_eq h rfl
    have hb : reqB w = reqB w' := extractLsb'_eq_of_and_eq h rfl
    rw [ha, hb, hdin (.inl hop)]
  case h_2 hop => rw [hdin (.inr hop)]
  case h_3 hop =>
    obtain rfl : op = 3 := BitVec.eq_of_toNat_eq hop
    have hlo : reqLo w = reqLo w' := extractLsb'_eq_of_and_eq h rfl
    rw [hlo]
  case h_4 hop =>
    obtain rfl : op = 4 := BitVec.eq_of_toNat_eq hop
    have hlo : reqLo w = reqLo w' := extractLsb'_eq_of_and_eq h rfl
    have hhi : reqHi w = reqHi w' := extractLsb'_eq_of_and_eq h rfl
    rw [hlo, hhi]
  case h_5 hop =>
    obtain rfl : op = 5 := BitVec.eq_of_toNat_eq hop
    rw [reqFlag_eq_of_and_eq h rfl]
  case h_11 hop =>
    obtain rfl : op = 0xB := BitVec.eq_of_toNat_eq hop
    rw [reqFlag_eq_of_and_eq h rfl]
  all_goals rfl

/-- Words that agree on the bits their operation looks at select the same operation with the same operands (R56). -/
theorem decodeRequest_congr {w w' : ReqWord} {din din' : List Byte}
    (h : w &&& usedMask (reqOp w) = w' &&& usedMask (reqOp w))
    (hdin : (reqOp w).toNat = 1 ∨ (reqOp w).toNat = 2 → din = din') :
    decodeRequest w din = decodeRequest w' din' := by
  obtain ⟨hmaskOp, hmaskRsv⟩ := usedMask_covers_op_rsv (reqOp w)
  have hop : reqOp w = reqOp w' := extractLsb'_eq_of_and_eq h hmaskOp
  have hrsv : reqRsv w = reqRsv w' := extractLsb'_eq_of_and_eq h hmaskRsv
  rw [decodeRequest, decodeRequest, ← hrsv, ← hop, decodeOp_congr h hdin]

/-! ### What the block does with an input, by what the decoder says of it -/

/-- A request that does not decode is answered at once (R54). -/
theorem runInput_request_of_error {w : ReqWord} {din : List Byte} {e : DecodeError}
    (h : decode (.request w din) = .error e) (s : State) :
    runInput (.request w din) s = .next (answerIllegal s) := by
  simp only [runInput, h]

theorem decodeTableWord_eq_some_iff {nbits w : Nat} {i : Instr} :
    decodeTableWord nbits w = some i ↔ decode (inputOfTable nbits w) = .ok i := by
  unfold decodeTableWord
  cases decode (inputOfTable nbits w) <;> simp

end Sys2Proof.Machine

/-! The obligations on the encoding, settled. -/

namespace Sys2Proof.Machine

/-- Settles O1: a request's operands are read back from the fields they were packed in, a command word from its row
of the table. -/
theorem encodeThenDecodeIsIdentity : Obligations.EncodeThenDecodeIsIdentity := by
  intro i hwf
  cases i with
  | crc8 seed poly din => exact decodeRequest_packRequest (by simp [decodeOp])
  | startSs rep =>
    have hrep : rep < 16 := of_decide_eq_true hwf
    exact decodeRequest_packRequest (by simp [decodeOp, Nat.mod_eq_of_lt hrep])
  | startPer rep rate =>
    obtain ⟨hrep, hrate⟩ : rep < 16 ∧ rate < 16 := by simpa [Instr.WellFormed] using hwf
    exact decodeRequest_packRequest (by simp [decodeOp, Nat.mod_eq_of_lt hrep, Nat.mod_eq_of_lt hrate])
  | getCycle preferMin => exact decodeRequest_packRequest (by simp [decodeOp])
  | setHeater on => exact decodeRequest_packRequest (by simp [decodeOp])
  | _ => rfl

/-- Settles O2: the match value fixes OP and RSV, and the fields of the word are its operands. -/
theorem requestWordSelectsOperationAndOperands : Obligations.RequestWordSelectsOperationAndOperands := by
  intro w din
  rw [← reqA_eq_ofNat, ← reqB_eq_ofNat, ← toNat_reqLo, ← toNat_reqHi, ← reqFlag_eq]
  refine ⟨?_, ?_, ?_, ?_, ?_, ?_, ?_, ?_, ?_, ?_, ?_, ?_⟩ <;> exact fun hw => decodeRequest_of_match hw rfl rfl

/-- Settles O3, from the decoder's tables. -/
theorem exampleWordsDecode : Obligations.ExampleWordsDecode := by
  unfold Obligations.ExampleWordsDecode
  decide

/-- Settles O4: RSV and OP, as numbers, are the two fields on which the decoder fails. -/
theorem reservedRequestWordsAreExactlyTheUndecodable : Obligations.ReservedRequestWordsAreExactlyTheUndecodable :=
  decodeRequest_error_iff

/-- Settles O5: the response is all that is written. -/
theorem reservedRequestAnsweredIllegalNothingElse : Obligations.ReservedRequestAnsweredIllegalNothingElse := by
  intro s w din rest hseq hin hreserved
  obtain ⟨e, herror⟩ := (decodeRequest_error_iff w din).mpr hreserved
  have hstep : step s = .next (answerIllegal s.dropInput) := by
    rw [step_of_cons hseq hin, runInput_request_of_error herror]
  obtain ⟨⟨htransport, hmode⟩, hset, -, -⟩ := quiet_respond s.dropInput .illegalRequest none none none
  have hwork : SameWorking s (answerIllegal s.dropInput) := ⟨rfl, fun _ => rfl, rfl⟩
  exact ⟨_, hstep, rfl, hmode, hset, hwork, htransport, congrArg List.tail hin, rfl⟩

/-- Settles O6: whatever the decoder reads lies under the mask of the word's operation. -/
theorem ignoredRequestFieldsDoNotMatter : Obligations.IgnoredRequestFieldsDoNotMatter := by
  intro w w' din din' hmask hdin
  exact decodeRequest_congr hmask (toNat_reqOp w ▸ hdin)

/-- Settles O9: the word is the head of the inbox, and it is taken out again. -/
theorem placedWordRunsNext : Obligations.PlacedWordRunsNext := by
  intro s nbits w i hdec
  exact stepRunsTheDecodedInstruction _ _ s.inbox i rfl rfl (decodeTableWord_eq_some_iff.mp hdec)

end Sys2Proof.Machine

/-! SUPPORT. The laws of the checksum (R70 to R72, R75), how CRC8 ends (R73), and which frames VALIDATE refuses
(R141). -/

namespace Sys2Proof.Machine

/-! ### The checksum of a sequence -/

/-- The checksum is a left fold of the byte step (R72). -/
theorem crc8_eq_foldl (seq : List Byte) (seed poly : Byte) :
    crc8 seq seed poly = seq.foldl (fun acc b => crc8Byte acc b poly) seed := by
  induction seq generalizing seed with
  | nil => rfl
  | cons b rest ih => rw [crc8_cons, ih, List.foldl_cons]

/-- The checksum chains (R75 c). -/
theorem crc8_append (s t : List Byte) (seed poly : Byte) :
    crc8 (s ++ t) seed poly = crc8 t (crc8 s seed poly) poly := by
  simp only [crc8_eq_foldl, List.foldl_append]

/-- An integer enters the block modulo 256 (R6, R71). -/
theorem trunc8_eq_ofNat_mod (v : Nat) : trunc8 v = BitVec.ofNat 8 (v % 256) :=
  BitVec.eq_of_toNat_eq (Nat.mod_mod v 256).symm

/-! ### The bit step -/

/-- The bit step's shift, on numbers (R70). -/
theorem shiftLeft_one_eq_ofNat (acc : Byte) : acc <<< 1 = BitVec.ofNat 8 (acc.toNat * 2) := by
  apply BitVec.eq_of_toNat_eq
  rw [BitVec.toNat_shiftLeft, Nat.shiftLeft_eq, pow_one, BitVec.toNat_ofNat]

/-- With polynomial 0 the bits shifted out are lost and none enters: n bit steps shift by n. -/
theorem crc8Bits_poly_zero (n : Nat) (acc : Byte) : crc8Bits n acc 0 = acc <<< n := by
  induction n generalizing acc with
  | zero => exact (BitVec.shiftLeft_zero acc).symm
  | succ n ih =>
    have hbit : crc8Bit acc 0 = acc <<< 1 := by simp [crc8Bit]
    rw [crc8Bits, hbit, ih, ← BitVec.shiftLeft_add, Nat.add_comm]

theorem crc8Byte_poly_zero (acc b : Byte) : crc8Byte acc b 0 = 0 := by
  rw [crc8Byte, crc8Bits_poly_zero]
  exact BitVec.shiftLeft_eq_zero (le_refl 8)

/-- With polynomial 0 the accumulator 0 stays 0. -/
theorem crc8_seed_zero_poly_zero (seq : List Byte) : crc8 seq 0 0 = 0 := by
  induction seq with
  | nil => rfl
  | cons b rest ih => rw [crc8_cons, crc8Byte_poly_zero, ih]

/-! ### For an odd polynomial every step can be undone (R75 f) -/

section
variable {poly : Byte} (hpoly : poly.getLsbD 0 = true)
include hpoly

/-- The shift leaves bit 0 clear, so there an odd polynomial shows whether it was used. -/
theorem getLsbD_zero_crc8Bit (acc : Byte) : (crc8Bit acc poly).getLsbD 0 = acc.msb := by
  unfold crc8Bit
  split
  case isTrue hmsb => simp [hmsb, hpoly]
  case isFalse hmsb => simp [hmsb]

theorem crc8Bit_injective : Function.Injective fun acc => crc8Bit acc poly := by
  intro a a' h
  have hmsb : a.msb = a'.msb := by
    rw [← getLsbD_zero_crc8Bit hpoly a, ← getLsbD_zero_crc8Bit hpoly a']
    exact congrArg (BitVec.getLsbD · 0) h
  have hshift : a <<< 1 = a' <<< 1 := by
    simp only [crc8Bit, hmsb] at h
    split at h
    · exact (BitVec.xor_left_inj poly).mp h
    · exact h
  have hlow := congrArg BitVec.toNat hshift
  simp only [BitVec.toNat_shiftLeft, Nat.shiftLeft_eq] at hlow
  simp only [BitVec.msb_eq_decide, decide_eq_decide] at hmsb
  apply BitVec.eq_of_toNat_eq
  omega

theorem crc8Bits_injective (n : Nat) : Function.Injective fun acc => crc8Bits n acc poly := by
  induction n with
  | zero => exact Function.injective_id
  | succ n ih => exact ih.comp (crc8Bit_injective hpoly)

/-- Different accumulators stay different, whatever byte enters. -/
theorem crc8Byte_injective_acc (b : Byte) : Function.Injective fun acc => crc8Byte acc b poly := by
  intro acc acc' h
  exact (BitVec.xor_left_inj b).mp (crc8Bits_injective hpoly 8 h)

/-- Different bytes that enter leave different accumulators. -/
theorem crc8Byte_injective_byte (acc : Byte) : Function.Injective fun b => crc8Byte acc b poly := by
  intro b b' h
  exact (BitVec.xor_right_inj acc).mp (crc8Bits_injective hpoly 8 h)

theorem crc8_injective_seed (seq : List Byte) : Function.Injective fun seed => crc8 seq seed poly := by
  induction seq with
  | nil => exact Function.injective_id
  | cons b rest ih => exact ih.comp (crc8Byte_injective_acc hpoly b)

end

/-! ### CRC8 from its operands to its end -/

/-- The state in which CRC8 ends (R73). -/
theorem exec_crc8_eq (seed poly : Byte) (din : List Byte) (s : State) :
    exec (.crc8 seed poly din) s =
      .next (((s.setAcc (crc8 din seed poly)).dropAcc).respond .ok (some ((crc8 din seed poly).setWidth 48)) none
        none) := rfl

/-! ### The frames that VALIDATE refuses -/

/-- VALIDATE of this payload answers DataCorruption (R141, R142). -/
def RefusesFrame (s : State) (din : List Byte) : Prop :=
  ∃ t, exec (.validate din) s = .next t ∧ t.rsp.status = .dataCorruption

theorem refusesFrame_of_raise {s t : State} {din : List Byte} {computed expected : Byte} {place : SubFrame}
    (h : validateFlow din s = .raise (.dataCorruption computed expected place) t) : RefusesFrame s din :=
  ⟨_, congrArg answer h, rfl⟩

section
variable {d0 d1 c : Byte} (s : State)

theorem refusesFrame_three (h : crc8 [d0, d1] 0xFF 0x31 ≠ c) : RefusesFrame s [d0, d1, c] :=
  refusesFrame_of_raise (validateFlow_three_bad s h)

theorem refusesFrame_six_first (h : crc8 [d0, d1] 0xFF 0x31 ≠ c) (e0 e1 c' : Byte) :
    RefusesFrame s [d0, d1, c, e0, e1, c'] :=
  refusesFrame_of_raise (validateFlow_six_badFirst s h)

/-- A bad second half is refused, for itself or for a bad first half. -/
theorem refusesFrame_six_second (h : crc8 [d0, d1] 0xFF 0x31 ≠ c) (e0 e1 c' : Byte) :
    RefusesFrame s [e0, e1, c', d0, d1, c] := by
  by_cases hfirst : crc8 [e0, e1] 0xFF 0x31 = c'
  · exact refusesFrame_of_raise (validateFlow_six_badSecond s hfirst h)
  · exact refusesFrame_six_first s hfirst d0 d1 c

end

end Sys2Proof.Machine

/-! The obligations on the checksum, settled. -/

namespace Sys2Proof.Machine

/-- Settles O37: truncation passes through the exclusive or. -/
theorem checksumBitStepRule : Obligations.ChecksumBitStepRule := by
  intro acc poly
  rw [BitVec.ofNat_xor, BitVec.ofNat_toNat, BitVec.setWidth_eq, ← shiftLeft_one_eq_ofNat]
  rfl

/-- Settles O38: the byte step by its definition, the fold by induction on the sequence. -/
theorem checksumIsTheLeftFoldOfTheByteStep : Obligations.ChecksumIsTheLeftFoldOfTheByteStep := by
  refine ⟨fun acc poly v => ?_, crc8_eq_foldl⟩
  rw [trunc8_eq_ofNat_mod]
  rfl

/-- Settles O39: the checksum is the result, and ACC is all the working state that it writes. -/
theorem crc8Meaning : Obligations.Crc8Meaning := by
  refine ⟨fun w din => (requestWordSelectsOperationAndOperands w din).1, fun s seed poly din => ?_⟩
  obtain ⟨⟨htransport, hmode⟩, hset, hin, -⟩ := (quiet_crc8Flow seed poly din s).trans (quiet_complete _)
  have hr0 : ((crc8 din seed poly).setWidth 48).toNat = (crc8 din seed poly).toNat :=
    BitVec.toNat_setWidth_of_le (by decide)
  exact ⟨_, exec_crc8_eq seed poly din s, rfl, hr0, htransport, hmode, hset, fun _ => rfl, rfl, hin, rfl⟩

/-- Settles O41. -/
theorem checksumChains : Obligations.ChecksumChains := crc8_append

/-- Settles O42: the first byte step leaves 0, and 0 stays. -/
theorem checksumWithPolynomialZeroIsZero : Obligations.ChecksumWithPolynomialZeroIsZero := by
  intro b rest seed
  rw [crc8_cons, crc8Byte_poly_zero, crc8_seed_zero_poly_zero]

/-- Settles O43: the two payloads are the same bytes. -/
theorem checksumTruncatesWiderIntegers : Obligations.ChecksumTruncatesWiderIntegers := by
  intro pre post v seed poly
  have htrunc : trunc8 (v + 256) = trunc8 v := by
    rw [trunc8_eq_ofNat_mod, Nat.add_mod_right, ← trunc8_eq_ofNat_mod]
  simp only [payloadOf, List.map_append, List.map_cons, htrunc]

/-- Settles O44: after the same beginning the two bytes leave different accumulators, and the rest keeps them
different. -/
theorem oneChangedByteChangesTheChecksum : Obligations.OneChangedByteChangesTheChecksum := by
  intro pre post b b' seed poly hpoly hne h
  simp only [crc8_append, crc8_cons] at h
  have hacc := crc8_injective_seed hpoly post h
  exact hne (crc8Byte_injective_byte hpoly _ hacc)

/-- Settles O48: by O44 the checksum of the corrupted bytes is another one. -/
theorem oneCorruptedDataByteIsDetected : Obligations.OneCorruptedDataByteIsDetected := by
  intro s d0 d1 x0 x1 hcorrupted
  have hne : crc8 [x0, x1] 0xFF 0x31 ≠ crc8 [d0, d1] 0xFF 0x31 := by
    obtain ⟨h0, rfl⟩ | ⟨rfl, h1⟩ := hcorrupted
    · exact oneChangedByteChangesTheChecksum [] [x1] x0 d0 0xFF 0x31 rfl h0
    · exact oneChangedByteChangesTheChecksum [x0] [] x1 d1 0xFF 0x31 rfl h1
  exact ⟨refusesFrame_three s hne, refusesFrame_six_first s hne, refusesFrame_six_second s hne⟩

/-- Settles O40: STATUS and R0 of CRC8's end do not name the state before it. -/
theorem crc8DependsOnItsOperandsOnly : Obligations.Crc8DependsOnItsOperandsOnly := by
  intro s s' t t' seed poly din ht ht'
  rw [exec_crc8_eq] at ht ht'
  cases ht
  cases ht'
  exact ⟨rfl, rfl⟩

end Sys2Proof.Machine

/-! SUPPORT. The transport calls of an instruction: a command that has been sent (R31, R80), a call that fails (R153),
and the instructions that make no call (R86). -/

namespace Sys2Proof.Machine

/-! ### A command that has been sent -/

/-- From s to t one command has been sent: the events `new` are added, its answer is used, and nothing else changes
(R31, R80). -/
structure CommandSent (new : List Event) (s t : State) : Prop where
  events : t.events = s.events ++ new
  answers : t.answers = s.answers.tail
  mode : SameMode s t
  settings : SameSettings s t
  working : SameWorking s t
  rsp : t.rsp = s.rsp
  inbox : t.inbox = s.inbox
  seq : t.seq = s.seq

/-- The state in which a command has been sent (R80). -/
def afterCommand (w : Half) (s : State) : State :=
  s.dropAnswer.logEvent (.write s.params.devAddr (commandBytes w))

theorem commandSent_afterCommand (w : Half) (s : State) :
    CommandSent [.write s.params.devAddr (commandBytes w)] s (afterCommand w s) :=
  ⟨rfl, rfl, ⟨rfl, rfl, rfl⟩, ⟨rfl, rfl⟩, ⟨rfl, fun _ => rfl, rfl⟩, rfl, rfl, rfl⟩

theorem commandSent_afterSettling (w : Half) (s : State) :
    CommandSent [.write s.params.devAddr (commandBytes w), .sleep 500] s (afterSettling w s) where
  events := List.append_assoc ..
  answers := rfl
  mode := ⟨rfl, rfl, rfl⟩
  settings := ⟨rfl, rfl⟩
  working := ⟨rfl, fun _ => rfl, rfl⟩
  rsp := rfl
  inbox := rfl
  seq := rfl

/-- An operation of one command whose write succeeds goes on to the rest of its steps and ends OK (R80, R86). -/
theorem answer_sendThen_returned {s : State} {b : Bytes6} (h : s.nextAnswer = .returned b) (w : Half)
    (rest : State → State) :
    answer (sendThen w rest s) = .next (respondOk .nothing (rest (afterCommand w s))) :=
  congrArg answer (sendThen_returned h w rest)

/-! ### A transport call that fails -/

/-- The state in which an instruction ends whose transport call has failed (R153, R157). -/
def afterFailedCall (call : Call) (s : State) : State :=
  respondError (.transportFailure call) (s.dropAnswer.logEvent (.failed call))

/-- From s to t a transport call has failed: the failure is the one event added and its answer the one used; RSP names
the call, and no other register is written (R153, R157). -/
structure CallFailed (call : Call) (s t : State) : Prop where
  status : t.rsp.status = .transportFailure
  info : t.rsp.info.toNat % 256 = if call = .write then 1 else 2
  events : t.events = s.events ++ [.failed call]
  answers : t.answers = s.answers.tail
  mode : SameMode s t
  settings : SameSettings s t
  working : SameWorking s t
  inbox : t.inbox = s.inbox
  seq : t.seq = .idle

theorem callFailed_afterFailedCall (call : Call) (s : State) : CallFailed call s (afterFailedCall call s) where
  status := rfl
  info := (packInfo_toNat_mod 0 0 (callCode call)).trans (by cases call <;> rfl)
  events := rfl
  answers := rfl
  mode := ⟨rfl, rfl, rfl⟩
  settings := ⟨rfl, rfl⟩
  working := ⟨rfl, fun _ => rfl, rfl⟩
  inbox := rfl
  seq := rfl

theorem SameWorking.trans {s t u : State} (h : SameWorking s t) (h' : SameWorking t u) : SameWorking s u := by
  obtain ⟨hacc, hfb, hflen⟩ := h
  obtain ⟨hacc', hfb', hflen'⟩ := h'
  exact ⟨hacc'.trans hacc, fun i => (hfb' i).trans (hfb i), hflen'.trans hflen⟩

section
variable {s : State} (h : s.nextAnswer = .failed)
include h

theorem answer_sendThen_failed (w : Half) (rest : State → State) :
    answer (sendThen w rest s) = .next (afterFailedCall .write s) :=
  congrArg answer (sendThen_failed h w rest)

theorem answer_sendCmd_bind_failed (w : Half) (f : Unit → State → Flow Result) :
    answer ((sendCmd w s).bind f) = .next (afterFailedCall .write s) := by
  rw [sendCmd_failed h, Flow.bind_raise]
  rfl

theorem answer_readout_failed (n : Nat) (dec : Memory → Result) :
    answer (readout n dec s) = .next (afterFailedCall .read s) :=
  congrArg answer (readout_failed h n dec)

end

/-! ### START_SS and START_PER, by their selectors -/

section
variable {rep rate : Nat} (s : State)

theorem startSsFlow_of_repOf {r : Rep} (h : repOf rep = some r) :
    startSsFlow rep s = sendThen (ssCmd r) (fun t => (t.setMode .singleShot).setRep r) s := by
  simp only [startSsFlow, h]

theorem startSsFlow_of_gt (h : 2 < rep) : startSsFlow rep s = .raise (.invalidArgument .repeatability) s := by
  simp only [startSsFlow, repOf_of_gt h]

theorem startPerFlow_of_repOf_rateOf {r : Rep} {q : Rate} (hr : repOf rep = some r) (hq : rateOf rate = some q) :
    startPerFlow rep rate s =
      sendThen (perCmd s.params.perCmd q r) (fun t => ((t.setMode .periodic).setRep r).setRate q) s := by
  simp only [startPerFlow, hr, hq]

theorem startPerFlow_of_rep_gt (h : 2 < rep) :
    startPerFlow rep rate s = .raise (.invalidArgument .repeatability) s := by
  simp only [startPerFlow, repOf_of_gt h]

theorem startPerFlow_of_rate_gt (hrep : rep ≤ 2) (hrate : 4 < rate) :
    startPerFlow rep rate s = .raise (.invalidArgument .sampleRate) s := by
  obtain ⟨r, hr⟩ := repOf_of_le hrep
  simp only [startPerFlow, hr, rateOf_of_gt hrate]

end

/-! ### The first call of an instruction fails -/

/-- Every instruction that makes a call begins with a write, but READ_MEAS outside Periodic (R86). -/
theorem firstCall_eq_write {i : Instr} {s : State} (h : i ≠ .readMeas ∨ s.mode = .periodic) :
    firstCall i s = .write :=
  if_neg fun ⟨hi, hmode⟩ => h.elim (· hi) hmode

theorem firstCall_readMeas {s : State} (h : s.mode ≠ .periodic) : firstCall .readMeas s = .read := if_pos ⟨rfl, h⟩

theorem exec_command_failed {i : Instr} (hi : isOperation i = false) {s : State} (h : s.nextAnswer = .failed) :
    exec i s = .next (afterFailedCall .write s) := by
  obtain ⟨word, -, hexec⟩ := exec_eq_emit hi
  exact (hexec s).trans (emit_failed h _)

/-- Where the first call fails, it is the instruction's end (R153). -/
theorem exec_of_firstCall_failed {i : Instr} {s : State} (hcall : makesCall i s = true) (h : s.nextAnswer = .failed) :
    exec i s = .next (afterFailedCall (firstCall i s) s) := by
  by_cases hread : i = .readMeas ∧ s.mode ≠ .periodic
  · obtain ⟨rfl, hmode⟩ := hread
    rw [firstCall_readMeas hmode]
    exact (congrArg answer (readMeasFlow_of_not_periodic hmode)).trans (answer_readout_failed h _ _)
  rw [firstCall_eq_write (by tauto)]
  cases i with
  | crc8 seed poly din => cases hcall
  | validate din => cases hcall
  | getCycle preferMin => cases hcall
  | startSs rep =>
    obtain ⟨r, hr⟩ := repOf_of_le (of_decide_eq_true hcall)
    exact (congrArg answer (startSsFlow_of_repOf s hr)).trans (answer_sendThen_failed h _ _)
  | startPer rep rate =>
    obtain ⟨hrep, hrate⟩ : rep ≤ 2 ∧ rate ≤ 4 := by simpa [makesCall] using hcall
    obtain ⟨r, hr⟩ := repOf_of_le hrep
    obtain ⟨q, hq⟩ := rateOf_of_le hrate
    exact (congrArg answer (startPerFlow_of_repOf_rateOf s hr hq)).trans (answer_sendThen_failed h _ _)
  | readMeas =>
    have hmode : s.mode = .periodic := by simpa using hread
    exact (congrArg answer (readMeasFlow_of_periodic hmode)).trans (answer_sendCmd_bind_failed h _ _)
  | iterNext =>
    have hmode : s.mode = .periodic := of_decide_eq_true hcall
    have hflow := (iterNextFlow_of_periodic hmode).trans (readMeasFlow_of_periodic hmode)
    exact (congrArg answer hflow).trans (answer_sendCmd_bind_failed h _ _)
  | getId => exact answer_sendCmd_bind_failed h _ _
  | getStatus => exact answer_sendCmd_bind_failed h _ _
  | softReset => exact answer_sendThen_failed h _ _
  | setHeater on => exact answer_sendThen_failed h _ _
  | sendBreak => exact answer_sendThen_failed h _ _
  | _ => exact exec_command_failed rfl h

/-! ### READ_MEAS and NEXT once their command is sent, and the readouts whose read then fails -/

/-- In Periodic READ_MEAS and NEXT are one operation: the fetch command and a read (R124, R127). -/
theorem exec_fetch_returned {s : State} {a : Bytes6} {i : Instr} (hi : i = .readMeas ∨ i = .iterNext)
    (hmode : s.mode = .periodic) (ha : s.nextAnswer = .returned a) :
    exec i s = answer (readout 6 decodeMeas (afterCommand fetchWord s)) := by
  have hflow : readMeasFlow s = readout 6 decodeMeas (afterCommand fetchWord s) := by
    rw [readMeasFlow_of_periodic hmode, sendCmd_returned ha, Flow.bind_ok, afterCommand]
  obtain rfl | rfl := hi
  · exact congrArg answer hflow
  · exact congrArg answer ((iterNextFlow_of_periodic hmode).trans hflow)

theorem answer_commandedReadout_failed {s : State} {a : Bytes6} (ha : s.nextAnswer = .returned a)
    (hb : s.dropAnswer.nextAnswer = .failed) (w : Half) (n : Nat) (dec : Memory → Result) :
    answer (commandedReadout w n dec s) = .next (afterFailedCall .read (afterSettling w s)) := by
  rw [commandedReadout_returned ha]
  exact answer_readout_failed (s := afterSettling w s) hb n dec

/-! ### The instructions that make no call -/

/-- The steps of an operation end, with a value or an error: none waits for ever on the transport (R187). -/
def Flow.Ends {α : Type} : Flow α → Prop
  | .ok _ _ => True
  | .raise _ _ => True
  | .hang _ => False

section
variable {α β : Type} {x : Flow α}

theorem Flow.Ends.bind {f : α → State → Flow β} (h : x.Ends) (hf : ∀ a t, (f a t).Ends) : (x.bind f).Ends := by
  cases x with
  | ok a t => exact hf a t
  | raise e t => trivial
  | hang t => exact h

theorem Flow.Ends.mapState (h : x.Ends) (g : State → State) : (x.mapState g).Ends := by
  cases x with
  | ok a t => trivial
  | raise e t => trivial
  | hang t => exact h

end

/-- An operation that ends leaves the sequencer idle (R17). -/
theorem Flow.Ends.complete_seq {x : Flow Result} (h : x.Ends) : (complete x).seq = .idle := by
  cases x with
  | ok r t => cases r <;> rfl
  | raise e t => rfl
  | hang t => exact h.elim

theorem ends_checkSubFrame (place : SubFrame) (d0 d1 c : Byte) (s : State) :
    (checkSubFrame place d0 d1 c s).Ends := by
  by_cases h : crc8 [d0, d1] 0xFF 0x31 = c
  · rw [checkSubFrame_good h]
    trivial
  · rw [checkSubFrame_bad h]
    trivial

theorem ends_validate (buf : List Byte) (s : State) : (validate buf s).Ends := by
  unfold validate
  split
  · exact ends_checkSubFrame _ _ _ _ s
  · exact (ends_checkSubFrame _ _ _ _ s).bind fun _ t => ends_checkSubFrame _ _ _ _ t
  · trivial

theorem ends_validateFlow (din : List Byte) (s : State) : (validateFlow din s).Ends := by
  unfold validateFlow
  split
  · exact ((ends_validate din _).mapState _).bind fun _ _ => trivial
  · exact (ends_validate din s).bind fun _ _ => trivial

/-- From s the instruction answers a next state, the sequencer idle, with no transport call and the mode registers, the
settings and the inbox kept (R86). -/
def AnswersQuietly (i : Instr) (s : State) : Prop :=
  ∃ t, exec i s = .next t ∧ t.seq = .idle ∧ NoTransport s t ∧ SameMode s t ∧ SameSettings s t ∧ t.inbox = s.inbox

theorem answersQuietly_of_quiet {i : Instr} {s : State} {x : Flow Result} (hexec : exec i s = answer x)
    (hquiet : Quiet s x.final) (hseq : (complete x).seq = .idle) : AnswersQuietly i s := by
  obtain ⟨⟨htransport, hmode⟩, hset, hin, -⟩ := hquiet.trans (quiet_complete x)
  exact ⟨_, hexec, hseq, htransport, hmode, hset, hin⟩

/-- An operation that is refused before its first call (R151, R154). -/
theorem answersQuietly_of_raise {i : Instr} {s : State} {e : Err} (hexec : exec i s = answer (.raise e s)) :
    AnswersQuietly i s :=
  answersQuietly_of_quiet hexec (.refl s) rfl

theorem answersQuietly_startPer {rep rate : Nat} (h : ¬(rep ≤ 2 ∧ rate ≤ 4)) (s : State) :
    AnswersQuietly (.startPer rep rate) s := by
  by_cases hrep : rep ≤ 2
  · have hrate : 4 < rate := Nat.lt_of_not_le fun hle => h ⟨hrep, hle⟩
    exact answersQuietly_of_raise (congrArg answer (startPerFlow_of_rate_gt s hrep hrate))
  · exact answersQuietly_of_raise (congrArg answer (startPerFlow_of_rep_gt s (Nat.lt_of_not_le hrep)))

end Sys2Proof.Machine

/-! SUPPORT. The word each command row sends (R81 to R83), and the two readings of a frame (R123). -/

namespace Sys2Proof.Machine

/-! ### The command words as instructions: which two bytes each row sends -/

/-- A fixed row sends the word of its row (R81, R82). -/
theorem exec_eq_emit_of_fixedRow {w : Half} {i : Instr} (h : (w, i) ∈ fixedCommandRows) (s : State) :
    exec i s = emit w s := by
  fin_cases h
  all_goals rfl

/-- The periodic command words with the two bytes a table gives each (R83). -/
def periodicRowsOf (t : PerTable) : List (Instr × Byte × Byte) :=
  [(.cmdPerHz05Low, t.hz05.first, t.hz05.second.low), (.cmdPerHz05Medium, t.hz05.first, t.hz05.second.medium),
    (.cmdPerHz05High, t.hz05.first, t.hz05.second.high),
    (.cmdPerHz1Low, t.hz1.first, t.hz1.second.low), (.cmdPerHz1Medium, t.hz1.first, t.hz1.second.medium),
    (.cmdPerHz1High, t.hz1.first, t.hz1.second.high),
    (.cmdPerHz2Low, t.hz2.first, t.hz2.second.low), (.cmdPerHz2Medium, t.hz2.first, t.hz2.second.medium),
    (.cmdPerHz2High, t.hz2.first, t.hz2.second.high),
    (.cmdPerHz4Low, t.hz4.first, t.hz4.second.low), (.cmdPerHz4Medium, t.hz4.first, t.hz4.second.medium),
    (.cmdPerHz4High, t.hz4.first, t.hz4.second.high),
    (.cmdPerHz10Low, t.hz10.first, t.hz10.second.low), (.cmdPerHz10Medium, t.hz10.first, t.hz10.second.medium),
    (.cmdPerHz10High, t.hz10.first, t.hz10.second.high)]

/-- A periodic row sends the entry of the table the block holds (R83). -/
theorem exec_eq_emit_of_periodicRow {s : State} {i : Instr} {b0 b1 : Byte}
    (h : (i, b0, b1) ∈ periodicRowsOf s.params.perCmd) : exec i s = emit (b0 ++ b1) s := by
  fin_cases h
  all_goals rfl

/-- Under the default table a periodic row sends the word of its row (R83; log 7). -/
theorem mem_periodicRowsOf_default {w : Half} {i : Instr} (h : (w, i) ∈ periodicCommandRows) :
    ∃ b0 b1, w = b0 ++ b1 ∧ (i, b0, b1) ∈ periodicRowsOf perCmdDefault := by
  have hrow : ∀ row ∈ periodicCommandRows,
      row.1 = row.1.extractLsb' 8 8 ++ row.1.extractLsb' 0 8 ∧
        (row.2, row.1.extractLsb' 8 8, row.1.extractLsb' 0 8) ∈ periodicRowsOf perCmdDefault := by decide
  exact ⟨_, _, hrow _ h⟩

/-- What encodes to a command word is a row of the opcode table. -/
theorem mem_commandRows_of_encode {i : Instr} {w : Half} (h : encode i = .command w) : (w, i) ∈ commandRows := by
  cases i <;> cases h
  -- A request is no command word, so that the rows of the table are left.
  all_goals decide

/-- Under the default table every command row sends the word that encodes it (log 7). -/
theorem exec_eq_emit_of_encode {s : State} {i : Instr} {w : Half} (hdefault : s.params.perCmd = perCmdDefault)
    (h : encode i = .command w) : exec i s = emit w s := by
  obtain hfixed | hperiodic := List.mem_append.mp (mem_commandRows_of_encode h)
  · exact exec_eq_emit_of_fixedRow hfixed s
  · obtain ⟨b0, b1, rfl, hrow⟩ := mem_periodicRowsOf_default hperiodic
    exact exec_eq_emit_of_periodicRow (hdefault ▸ hrow)

/-- The two bytes of a command word, as numbers: the high one first (R35). -/
theorem commandBytes_eq_ofNat (w : Half) :
    commandBytes w = [BitVec.ofNat 8 (w.toNat / 256), BitVec.ofNat 8 w.toNat] :=
  congrArg (fun n => [BitVec.ofNat 8 n, BitVec.ofNat 8 w.toNat]) (Nat.shiftRight_eq_div_pow w.toNat 8)

/-- One emission on its own whose write succeeds (R80; log 11). -/
theorem emit_append_returned {s : State} {b : Bytes6} (h : s.nextAnswer = .returned b) (b0 b1 : Byte) :
    ∃ t, emit (b0 ++ b1) s = .next t ∧ CommandSent [.write s.params.devAddr [b0, b1]] s t :=
  ⟨_, emit_returned h _, commandBytes_append b0 b1 ▸ commandSent_afterCommand (b0 ++ b1) s⟩

/-! ### The two readings of a frame -/

/-- The readings are taken from the bytes 0, 1 and 3, 4 of the frame (R120, R123). -/
theorem decodeMeas_storeFrame (m : Memory) (b : Bytes6) :
    decodeMeas (m.storeFrame (firstBytes 6 b)) = .reading (tPico (b.b0 ++ b.b1)) (rhPico (b.b3 ++ b.b4)) := by
  simp [decodeMeas, wordAt0, wordAt3, Memory.read_storeFrame_six]

/-- The temperature fits in 48 bits, so that nothing is lost (R123). -/
theorem toInt_tPico (raw : Half) : (tPico raw).toInt = raw.toNat * 2670328832 - 45000000000000 := by
  have hraw : raw.toNat < 65536 := raw.isLt
  rw [tPico, BitVec.toInt_ofInt, Int.bmod_eq_of_le (by omega) (by omega)]

/-- The humidity fits in 48 bits, so that nothing is lost (R123). -/
theorem toNat_rhPico (raw : Half) : (rhPico raw).toNat = raw.toNat * 1525902190 := by
  have hraw : raw.toNat < 65536 := raw.isLt
  rw [rhPico, BitVec.toNat_ofNat, Nat.mod_eq_of_lt (by omega)]

end Sys2Proof.Machine

/-! The obligations on the command encoder, on failed and absent calls, and on the measurement in Periodic, settled. -/

namespace Sys2Proof.Machine

/-- Settles O7, on the table itself. -/
theorem commandWordsArePairwiseDistinct : Obligations.CommandWordsArePairwiseDistinct := by
  unfold Obligations.CommandWordsArePairwiseDistinct
  decide

/-- Settles O23: the operation has no call in its steps, or is refused before its first. -/
theorem noTransportCallWhereNoneIsListed : Obligations.NoTransportCallWhereNoneIsListed := by
  intro i s hcall
  cases i with
  | crc8 seed poly din => exact answersQuietly_of_quiet rfl (quiet_crc8Flow seed poly din s) rfl
  | validate din =>
    exact answersQuietly_of_quiet rfl (quiet_validateFlow din s) (ends_validateFlow din s).complete_seq
  | getCycle preferMin =>
    exact answersQuietly_of_quiet rfl (quiet_getCycleFlow preferMin s) (complete_getCycleFlow_working preferMin s).2
  | startSs rep =>
    have hrep : 2 < rep := Nat.lt_of_not_le (of_decide_eq_false hcall)
    exact answersQuietly_of_raise (congrArg answer (startSsFlow_of_gt s hrep))
  | startPer rep rate => exact answersQuietly_startPer (by simpa [makesCall] using hcall) s
  | iterNext =>
    exact answersQuietly_of_raise (congrArg answer (iterNextFlow_of_not_periodic (of_decide_eq_false hcall)))
  | _ => cases hcall

/-- Settles O24: a failed call is the last step of its instruction, whether it is the first call or the read after a
command. -/
theorem failedTransportCallEndsTheInstruction : Obligations.FailedTransportCallEndsTheInstruction := by
  refine ⟨fun i s hcall hfail => ?_, fun s a i before ha hb hi => ?_⟩
  · have hend := callFailed_afterFailedCall (firstCall i s) s
    exact ⟨_, exec_of_firstCall_failed hcall hfail, hend.status, hend.info, hend.events, hend.answers, hend.mode,
      hend.settings, hend.working, hend.inbox, hend.seq⟩
  · obtain ⟨u, hsent, hexec⟩ : ∃ u, CommandSent before s u ∧ exec i s = .next (afterFailedCall .read u) := by
      obtain ⟨rfl, rfl⟩ | ⟨rfl, rfl⟩ | ⟨hi, hmode, rfl⟩ := hi
      · exact ⟨_, commandSent_afterSettling readIdWord s, answer_commandedReadout_failed ha hb _ _ _⟩
      · exact ⟨_, commandSent_afterSettling readStatusWord s, answer_commandedReadout_failed ha hb _ _ _⟩
      · exact ⟨_, commandSent_afterCommand fetchWord s,
          (exec_fetch_returned hi hmode ha).trans (answer_readout_failed (s := afterCommand fetchWord s) hb _ _)⟩
    have hend := callFailed_afterFailedCall .read u
    exact ⟨_, hexec, hend.status, hend.info, hsent.events ▸ hend.events, hsent.answers ▸ hend.answers,
      hsent.mode.trans hend.mode, hsent.settings.trans hend.settings, hsent.working.trans hend.working,
      hend.inbox.trans hsent.inbox, hend.seq⟩

/-- Settles O28: the two bytes are those of the row's word. -/
theorem fixedCommandWordIsSentByteExact : Obligations.FixedCommandWordIsSentByteExact := by
  intro s b i b0 b1 hb hmem
  have hrow : (b0 ++ b1, i) ∈ fixedCommandRows := by
    fin_cases hmem
    all_goals decide
  obtain ⟨t, ht, hsent⟩ := emit_append_returned hb b0 b1
  exact ⟨t, (exec_eq_emit_of_fixedRow hrow s).trans ht, hsent.events, hsent.answers, hsent.mode, hsent.settings,
    hsent.working, hsent.rsp, hsent.inbox, hsent.seq⟩

/-- Settles O29: the two bytes are those of the row's entry of the table. -/
theorem periodicCommandWordIsSentFromTheTable : Obligations.PeriodicCommandWordIsSentFromTheTable := by
  intro s b i b0 b1 hb hmem
  obtain ⟨t, ht, hsent⟩ := emit_append_returned hb b0 b1
  exact ⟨t, (exec_eq_emit_of_periodicRow hmem).trans ht, hsent.events, hsent.answers, hsent.mode, hsent.settings,
    hsent.working, hsent.rsp, hsent.inbox, hsent.seq⟩

/-- Settles O30: the word sent is the encoding. -/
theorem commandRowSendsItsOwnWordUnderTheDefaultTable : Obligations.CommandRowSendsItsOwnWordUnderTheDefaultTable := by
  intro s b i w hdefault hencode hb
  exact ⟨_, (exec_eq_emit_of_encode hdefault hencode).trans (emit_returned hb w),
    commandBytes_eq_ofNat w ▸ (commandSent_afterCommand w s).events⟩

/-- Settles O31: one command, after which nothing is left to do. -/
theorem setHeaterSendsOneCommand : Obligations.SetHeaterSendsOneCommand := by
  refine ⟨fun w din hw => ?_, fun s on => ⟨fun b hb => ?_, fun hfail => ?_⟩⟩
  · rw [← reqFlag_eq]
    exact decodeRequest_of_match hw rfl rfl
  · have hsent := commandSent_afterCommand (if on then heaterOnWord else heaterOffWord) s
    have hbytes : commandBytes (if on then heaterOnWord else heaterOffWord) = [0x30, if on then 0x6D else 0x66] := by
      cases on <;> rfl
    exact ⟨_, answer_sendThen_returned hb _ _, rfl, hbytes ▸ hsent.events, hsent.answers, hsent.mode, hsent.settings,
      hsent.working, hsent.inbox, rfl⟩
  · have hend := callFailed_afterFailedCall .write s
    exact ⟨_, answer_sendThen_failed hfail _ _, hend.status, hend.info, hend.events, hend.mode, hend.settings,
      hend.working⟩

/-- Settles O34: each selector pair picks its entry of the default table. -/
theorem startPeriodicBytesUnderTheDefaultTable : Obligations.StartPeriodicBytesUnderTheDefaultTable := by
  intro s b rep rate b0 b1 hdefault hb hmem
  obtain ⟨r, q, hr, hq, hbytes⟩ : ∃ r q, repOf rep = some r ∧ rateOf rate = some q ∧
      commandBytes (perCmd perCmdDefault q r) = [b0, b1] := by
    fin_cases hmem
    all_goals exact ⟨_, _, rfl, rfl, rfl⟩
  have hexec := (congrArg answer (startPerFlow_of_repOf_rateOf s hr hq)).trans (answer_sendThen_returned hb _ _)
  rw [← hbytes, ← hdefault]
  exact ⟨_, hexec, (commandSent_afterCommand _ s).events⟩

/-- Settles O36: one command and then MODE <- Idle, which a failed write does not reach. -/
theorem softResetAndBreakReturnToIdle : Obligations.SoftResetAndBreakReturnToIdle := by
  intro s i op lo hmem
  obtain ⟨w, hdecode, hexec, hbytes⟩ : ∃ w, (∀ v din, v &&& 0xFF000000 = op → decode (.request v din) = .ok i) ∧
      exec i s = answer (sendThen w (fun t => t.setMode .idle) s) ∧ commandBytes w = [0x30, lo] := by
    fin_cases hmem
    · exact ⟨softResetWord, fun v din hv => decodeRequest_of_match hv rfl rfl, rfl, rfl⟩
    · exact ⟨breakWord, fun v din hv => decodeRequest_of_match hv rfl rfl, rfl, rfl⟩
  refine ⟨hdecode, fun b hb => ?_, fun hfail => ?_⟩
  · have hsent := commandSent_afterCommand w s
    obtain ⟨-, hrep, hrate⟩ := hsent.mode
    exact ⟨_, hexec.trans (answer_sendThen_returned hb _ _), rfl, rfl, hrep, hrate, hbytes ▸ hsent.events,
      hsent.answers, hsent.settings, hsent.working, hsent.inbox, rfl⟩
  · have hend := callFailed_afterFailedCall .write s
    exact ⟨_, hexec.trans (answer_sendThen_failed hfail _ _), hend.status, hend.info, hend.events, hend.mode,
      hend.settings, hend.working⟩

/-- Settles O51: the fetch command, then a read whose frame is accepted; the words of the frame are decoded without
loss. -/
theorem readMeasurementAndNextInPeriodic : Obligations.ReadMeasurementAndNextInPeriodic := by
  intro s a b i hi hmode ha hb hgood
  obtain ⟨t, hread, hmade⟩ := readout_six_ok (s := afterCommand fetchWord s) hb hgood decodeMeas
  rw [decodeMeas_storeFrame] at hread
  have hexec := (exec_fetch_returned hi hmode ha).trans (congrArg answer hread)
  have htemp : (tPico (b.b0 ++ b.b1)).toInt =
      (b.b0.toNat * 256 + b.b1.toNat) * 2670328832 - 45000000000000 := by
    rw [toInt_tPico, toNat_append_byte]
    push_cast
    rfl
  have hhum : (rhPico (b.b3 ++ b.b4)).toNat = (b.b3.toNat * 256 + b.b4.toNat) * 1525902190 := by
    rw [toNat_rhPico, toNat_append_byte]
  exact ⟨_, hexec, rfl, htemp, hhum, hmade.events.trans (List.append_assoc ..), hmade.answers, hmade.mode,
    hmade.settings, hmade.inbox, rfl, hmade.acc⟩

end Sys2Proof.Machine

/-! SUPPORT. START_SS and START_PER refused for a selector (R151), and the errors of the operations that set the mode
(R100, R107). -/

namespace Sys2Proof.Machine

/-! ### An argument that is refused -/

/-- From s to t an argument has been refused: RSP gives the reason, no transport call is made, and no other register
is written (R151, R157). -/
structure ArgumentRefused (reason : Reason) (s t : State) : Prop where
  status : t.rsp.status = .invalidArgument
  info : t.rsp.info.toNat % 256 = (reasonCode reason).toNat
  transport : NoTransport s t
  mode : SameMode s t
  settings : SameSettings s t
  working : SameWorking s t
  inbox : t.inbox = s.inbox
  seq : t.seq = .idle

theorem argumentRefused_respondError (reason : Reason) (s : State) :
    ArgumentRefused reason s (respondError (.invalidArgument reason) s) where
  status := rfl
  info := packInfo_toNat_mod 0 0 (reasonCode reason)
  transport := ⟨rfl, rfl⟩
  mode := ⟨rfl, rfl, rfl⟩
  settings := ⟨rfl, rfl⟩
  working := ⟨rfl, fun _ => rfl, rfl⟩
  inbox := rfl
  seq := rfl

/-! ### The operations that set the mode -/

/-- An operation that sets the mode is refused at once, or is one command and then the rest of its steps (R101, R102,
R105, R106). -/
theorem exec_of_setsMode {i : Instr} (h : SetsMode i) (s : State) :
    (∃ e, exec i s = answer (.raise e s)) ∨ ∃ w rest, exec i s = answer (sendThen w rest s) := by
  obtain ⟨rep, rfl⟩ | ⟨rep, rate, rfl⟩ | rfl | rfl := h
  · by_cases hrep : rep ≤ 2
    · obtain ⟨r, hr⟩ := repOf_of_le hrep
      exact .inr ⟨_, _, congrArg answer (startSsFlow_of_repOf s hr)⟩
    · exact .inl ⟨_, congrArg answer (startSsFlow_of_gt s (Nat.lt_of_not_le hrep))⟩
  · by_cases hrep : rep ≤ 2
    · by_cases hrate : rate ≤ 4
      · obtain ⟨r, hr⟩ := repOf_of_le hrep
        obtain ⟨q, hq⟩ := rateOf_of_le hrate
        exact .inr ⟨_, _, congrArg answer (startPerFlow_of_repOf_rateOf s hr hq)⟩
      · exact .inl ⟨_, congrArg answer (startPerFlow_of_rate_gt s hrep (Nat.lt_of_not_le hrate))⟩
    · exact .inl ⟨_, congrArg answer (startPerFlow_of_rep_gt s (Nat.lt_of_not_le hrep))⟩
  · exact .inr ⟨_, _, rfl⟩
  · exact .inr ⟨_, _, rfl⟩

/-- One command whose operation does not end OK: its write did not succeed, so the rest of the steps is not run
(R157, R187). -/
theorem sameMode_complete_sendThen {w : Half} {rest : State → State} {s : State}
    (h : (complete (sendThen w rest s)).rsp.status ≠ .ok ∨ (complete (sendThen w rest s)).seq = .blocked) :
    SameMode s (complete (sendThen w rest s)) := by
  obtain ⟨b, -, hsend⟩ | ⟨-, hsend⟩ | ⟨-, hsend⟩ := sendThen_cases w rest s <;> rw [hsend] at h ⊢
  · simp at h
  · exact ⟨rfl, rfl, rfl⟩
  · exact ⟨rfl, rfl, rfl⟩

/-! ### The selectors of START_SS and START_PER in range -/

/-- A repeatability selector in range picks its command of SS_CMD (R82). -/
theorem repOf_of_mem_ssBytes {rep : Nat} {r : Rep} {lo : Byte}
    (h : (rep, r, lo) ∈ [(0, Rep.low, (0x16 : Byte)), (1, .medium, 0x0B), (2, .high, 0x00)]) :
    repOf rep = some r ∧ commandBytes (ssCmd r) = [0x24, lo] := by
  fin_cases h
  all_goals exact ⟨rfl, rfl⟩

/-- A repeatability selector in range picks the second byte of a row of PER_CMD (R83). -/
theorem repOf_of_mem_repBytes {rep : Nat} {r : Rep} {second : RepBytes → Byte}
    (h : (rep, r, second) ∈
      [(0, Rep.low, RepBytes.low), (1, .medium, RepBytes.medium), (2, .high, RepBytes.high)]) :
    repOf rep = some r ∧ ∀ bytes, repByte bytes r = second bytes := by
  fin_cases h
  all_goals exact ⟨rfl, fun _ => rfl⟩

/-- A sample rate selector in range picks its row of PER_CMD (R83). -/
theorem rateOf_of_mem_perRows {t : PerTable} {rate : Nat} {q : Rate} {row : PerRow}
    (h : (rate, q, row) ∈
      [(0, Rate.hz05, t.hz05), (1, .hz1, t.hz1), (2, .hz2, t.hz2), (3, .hz4, t.hz4), (4, .hz10, t.hz10)]) :
    rateOf rate = some q ∧ perRow t q = row := by
  fin_cases h
  all_goals exact ⟨rfl, rfl⟩

end Sys2Proof.Machine

/-! The obligations on START_SS and START_PER, and on the mode registers after an error, settled. -/

namespace Sys2Proof.Machine

/-- Settles O20: only the operations that set the mode could write it, and they do so once their command is sent. -/
theorem errorLeavesTheModeRegisters : Obligations.ErrorLeavesTheModeRegisters := by
  intro i s t hexec hend _
  obtain ⟨u, hu, heffect⟩ := exec_effect i s
  obtain rfl := Host.Outcome.next.inj (hexec.symm.trans hu)
  obtain hsame | ⟨hset, -⟩ := heffect.mode
  · exact hsame
  obtain ⟨e, hraise⟩ | ⟨w, rest, hsend⟩ := exec_of_setsMode hset s
  · obtain rfl := Host.Outcome.next.inj (hraise.symm.trans hexec)
    exact ⟨rfl, rfl, rfl⟩
  · obtain rfl := Host.Outcome.next.inj (hsend.symm.trans hexec)
    exact sameMode_complete_sendThen hend

/-- Settles O32: out of range the argument is refused; in range the selector picks the command, and MODE and REP are
written only once it is sent. -/
theorem startSingleShotMeaning : Obligations.StartSingleShotMeaning := by
  refine ⟨fun w din hw => decodeRequest_of_match hw rfl rfl, fun s rep => ⟨fun hrep => ?_, fun r lo hmem => ?_⟩⟩
  · have hend := argumentRefused_respondError .repeatability s
    exact ⟨_, congrArg answer (startSsFlow_of_gt s hrep), hend.status, hend.info, hend.transport, hend.mode,
      hend.settings, hend.working, hend.inbox, hend.seq⟩
  obtain ⟨hr, hbytes⟩ := repOf_of_mem_ssBytes hmem
  have hexec := congrArg answer (startSsFlow_of_repOf s hr)
  refine ⟨fun b hb => ?_, fun hfail => ?_⟩
  · have hsent := commandSent_afterCommand (ssCmd r) s
    obtain ⟨-, -, hrate⟩ := hsent.mode
    exact ⟨_, hexec.trans (answer_sendThen_returned hb _ _), rfl, rfl, rfl, hrate, hbytes ▸ hsent.events,
      hsent.answers, hsent.settings, hsent.working, hsent.inbox, rfl⟩
  · have hend := callFailed_afterFailedCall .write s
    exact ⟨_, hexec.trans (answer_sendThen_failed hfail _ _), hend.status, hend.info, hend.events, hend.mode,
      hend.settings, hend.working⟩

/-- Settles O33: the repeatability is refused before the sample rate; in range the selectors pick an entry of
PER_CMD, and MODE, REP and RATE are written only once it is sent. -/
theorem startPeriodicMeaning : Obligations.StartPeriodicMeaning := by
  refine ⟨fun w din hw => ?_, fun s rep rate => ⟨fun hrep => ?_, fun hrep hrate => ?_, ?_⟩⟩
  · rw [← toNat_reqLo, ← toNat_reqHi]
    exact decodeRequest_of_match hw rfl rfl
  · have hend := argumentRefused_respondError .repeatability s
    exact ⟨_, congrArg answer (startPerFlow_of_rep_gt s hrep), hend.status, hend.info, hend.transport, hend.mode,
      hend.settings, hend.working, hend.inbox, hend.seq⟩
  · have hend := argumentRefused_respondError .sampleRate s
    exact ⟨_, congrArg answer (startPerFlow_of_rate_gt s hrep hrate), hend.status, hend.info, hend.transport,
      hend.mode, hend.settings, hend.working, hend.inbox, hend.seq⟩
  intro r second q row hmemRep hmemRate
  obtain ⟨hr, hsecond⟩ := repOf_of_mem_repBytes hmemRep
  obtain ⟨hq, rfl⟩ := rateOf_of_mem_perRows hmemRate
  have hexec := congrArg answer (startPerFlow_of_repOf_rateOf s hr hq)
  refine ⟨fun b hb => ?_, fun hfail => ?_⟩
  · have hsent := commandSent_afterCommand (perCmd s.params.perCmd q r) s
    rw [commandBytes_perCmd, hsecond] at hsent
    exact ⟨_, hexec.trans (answer_sendThen_returned hb _ _), rfl, rfl, rfl, rfl, hsent.events, hsent.answers,
      hsent.settings, hsent.working, hsent.inbox, rfl⟩
  · have hend := callFailed_afterFailedCall .write s
    exact ⟨_, hexec.trans (answer_sendThen_failed hfail _ _), hend.status, hend.info, hend.events, hend.mode,
      hend.settings, hend.working⟩

end Sys2Proof.Machine

/-! SUPPORT. The two readings in the bytes read (R123), and NEXT refused outside Periodic (R127). -/

namespace Sys2Proof.Machine

/-- The temperature in the first two bytes of a frame, the high one first (R120, R123). -/
theorem toInt_tPico_append (b0 b1 : Byte) :
    (tPico (b0 ++ b1)).toInt = (b0.toNat * 256 + b1.toNat) * 2670328832 - 45000000000000 := by
  rw [toInt_tPico, toNat_append_byte]
  push_cast
  rfl

/-- The humidity in the bytes 3 and 4 of a frame, the high one first (R120, R123). -/
theorem toNat_rhPico_append (b3 b4 : Byte) :
    (rhPico (b3 ++ b4)).toNat = (b3.toNat * 256 + b4.toNat) * 1525902190 := by
  rw [toNat_rhPico, toNat_append_byte]

theorem exec_readMeas_of_not_periodic {s : State} (h : s.mode ≠ .periodic) :
    exec .readMeas s = answer (readout 6 decodeMeas s) :=
  congrArg answer (readMeasFlow_of_not_periodic h)

theorem exec_iterNext_of_not_periodic {s : State} (h : s.mode ≠ .periodic) :
    exec .iterNext s = .next (respondError (.unsupportedOperation s.mode) s) :=
  congrArg answer (iterNextFlow_of_not_periodic h)

/-- INFO[7:0] of UnsupportedOperation is the code of the mode (R127, R154). -/
theorem respondError_unsupportedOperation_info (m : Mode) (s : State) :
    (respondError (.unsupportedOperation m) s).rsp.info.toNat % 256 = (modeCode m).toNat :=
  (packInfo_toNat_mod 0 0 ((modeCode m).setWidth 8)).trans (BitVec.toNat_setWidth_of_le (by decide))

end Sys2Proof.Machine

/-! The obligations on READ_MEAS outside Periodic, on NEXT and on the two readings, settled. -/

namespace Sys2Proof.Machine

/-- Settles O50: outside Periodic the steps are one read, whose frame is accepted; its words are decoded without
loss. -/
theorem readMeasurementOutsidePeriodic : Obligations.ReadMeasurementOutsidePeriodic := by
  intro s b hmode hb hgood
  obtain ⟨t, hread, hmade⟩ := readout_six_ok hb hgood decodeMeas
  rw [decodeMeas_storeFrame] at hread
  have hexec := (exec_readMeas_of_not_periodic hmode).trans (congrArg answer hread)
  exact ⟨_, hexec, rfl, toInt_tPico_append .., toNat_rhPico_append .., hmade.events, hmade.answers, hmade.mode,
    hmade.settings, hmade.inbox, rfl, hmade.acc⟩

/-- Settles O52: in Periodic the steps of NEXT are those of READ_MEAS; elsewhere it is refused at once. -/
theorem nextIsReadMeasurementOrUnsupported : Obligations.NextIsReadMeasurementOrUnsupported := by
  refine ⟨fun w din hw => decodeRequest_of_match hw rfl rfl, fun s => ⟨fun hmode => ?_, fun hmode => ?_⟩⟩
  · exact congrArg answer (iterNextFlow_of_periodic hmode)
  · exact ⟨_, exec_iterNext_of_not_periodic hmode, rfl, respondError_unsupportedOperation_info s.mode s, ⟨rfl, rfl⟩,
      ⟨rfl, rfl, rfl⟩, ⟨rfl, rfl⟩, ⟨rfl, fun _ => rfl, rfl⟩, rfl, rfl⟩

/-- Settles O57: the value fits in 48 bits, so the rest is arithmetic on the linear function. -/
theorem temperatureIsTheExactLinearFunction : Obligations.TemperatureIsTheExactLinearFunction := by
  refine ⟨toInt_tPico, fun raw raw' hlt => ?_, by decide, by decide, fun raw => ?_⟩
  · have hnat : raw.toNat < raw'.toNat := hlt
    rw [toInt_tPico, toInt_tPico]
    omega
  · rw [toInt_tPico]
    omega

/-- Settles O58: the value fits in 48 bits, so nothing is clamped, and the factor is positive. -/
theorem humidityIsTheExactLinearFunction : Obligations.HumidityIsTheExactLinearFunction := by
  refine ⟨toNat_rhPico, fun raw raw' hlt => ?_, by decide, by decide⟩
  rw [toNat_rhPico, toNat_rhPico]
  exact Nat.mul_lt_mul_of_pos_right hlt (by decide)

end Sys2Proof.Machine

/-! SUPPORT. VALIDATE from its payload to its end (R141, R142), and a readout whose frame is refused (R143, R152). -/

namespace Sys2Proof.Machine

/-! ### The registers VALIDATE writes -/

/-- The check of a sub-frame writes no working register but ACC (R15, R141). -/
theorem final_checkSubFrame (place : SubFrame) (d0 d1 c : Byte) (s : State) :
    ∃ acc, (checkSubFrame place d0 d1 c s).final = s.setAcc acc := by
  by_cases h : crc8 [d0, d1] 0xFF 0x31 = c
  · exact ⟨c, congrArg Flow.final (checkSubFrame_good h place s)⟩
  · exact ⟨_, congrArg Flow.final (checkSubFrame_bad h place s)⟩

/-- The check of a frame writes no working register but ACC (R15, R141). -/
theorem final_validate (buf : List Byte) (s : State) : ∃ acc, (validate buf s).final = s.setAcc acc := by
  unfold validate
  split
  case h_1 d0 d1 c => exact final_checkSubFrame .first d0 d1 c s
  case h_2 d0 d1 c e0 e1 c' =>
    by_cases h : crc8 [d0, d1] 0xFF 0x31 = c
    · rw [checkSubFrame_good h, Flow.bind_ok]
      exact final_checkSubFrame .second e0 e1 c' (s.setAcc c)
    · rw [checkSubFrame_bad h, Flow.bind_raise]
      exact ⟨_, rfl⟩
  case h_3 => exact ⟨s.acc, rfl⟩

theorem Flow.Ends.final_mapState {α : Type} {x : Flow α} (h : x.Ends) (g : State → State) :
    (x.mapState g).final = g x.final := by
  cases x with
  | ok a t => rfl
  | raise e t => rfl
  | hang t => exact h.elim

/-- An operation that ends without a result ends where its last step did. -/
theorem Flow.final_bind_nothing {α : Type} (x : Flow α) :
    (x.bind fun _ t => Flow.ok Result.nothing t).final = x.final := by
  cases x <;> rfl

theorem complete_fb (x : Flow Result) : (complete x).fb = x.final.fb := by
  cases x with
  | ok r t => cases r <;> rfl
  | raise e t => rfl
  | hang t => rfl

/-- The state in which VALIDATE ends (R142). -/
def afterValidate (din : List Byte) (s : State) : State := complete (validateFlow din s)

theorem exec_validate_eq (din : List Byte) (s : State) :
    exec (.validate din) s = .next (afterValidate din s) := rfl

/-- Of the frame buffer VALIDATE writes the payload's bytes only (R142). -/
theorem read_afterValidate_of_le {din : List Byte} {i : Fin 6} (hi : din.length ≤ i.val) (s : State) :
    (afterValidate din s).fb.read i = s.fb.read i := by
  rw [afterValidate, complete_fb, validateFlow]
  split
  · obtain ⟨acc, hacc⟩ := final_validate din (s.loadFrame din)
    rw [Flow.final_bind_nothing, (ends_validate din _).final_mapState, hacc, State.read_dropFrame_of_le _ hi]
    exact s.read_loadFrame_of_le hi
  · obtain ⟨acc, hacc⟩ := final_validate din s
    rw [Flow.final_bind_nothing, hacc, State.setAcc_fb]

/-! ### How VALIDATE ends, by the length of the payload -/

section
variable (d0 d1 c e0 e1 c' : Byte) (s : State)

/-- A payload of another length is refused before any checksum (R141). -/
theorem afterValidate_otherLength {din : List Byte} (h3 : din.length ≠ 3) (h6 : din.length ≠ 6) :
    afterValidate din s = respondError (.invalidArgument .bufferLength) s :=
  congrArg complete (validateFlow_otherLength s h3 h6)

theorem afterValidate_three_rsp :
    if c = crc8 [d0, d1] 0xFF 0x31 then (afterValidate [d0, d1, c] s).rsp.status = .ok
    else (afterValidate [d0, d1, c] s).rsp.status = .dataCorruption ∧
      (afterValidate [d0, d1, c] s).rsp.info = 0x00#8 ++ c ++ crc8 [d0, d1] 0xFF 0x31 := by
  unfold afterValidate
  split
  case isTrue h =>
    rw [validateFlow_three_good s h.symm]
    rfl
  case isFalse h =>
    rw [validateFlow_three_bad s (Ne.symm h)]
    exact ⟨rfl, rfl⟩

theorem afterValidate_six_rsp :
    if c = crc8 [d0, d1] 0xFF 0x31 then
      if c' = crc8 [e0, e1] 0xFF 0x31 then (afterValidate [d0, d1, c, e0, e1, c'] s).rsp.status = .ok
      else (afterValidate [d0, d1, c, e0, e1, c'] s).rsp.status = .dataCorruption ∧
        (afterValidate [d0, d1, c, e0, e1, c'] s).rsp.info = 0x03#8 ++ c' ++ crc8 [e0, e1] 0xFF 0x31
    else (afterValidate [d0, d1, c, e0, e1, c'] s).rsp.status = .dataCorruption ∧
      (afterValidate [d0, d1, c, e0, e1, c'] s).rsp.info = 0x00#8 ++ c ++ crc8 [d0, d1] 0xFF 0x31 := by
  unfold afterValidate
  split
  case isTrue h =>
    split
    case isTrue h' =>
      rw [validateFlow_six_good s h.symm h'.symm]
      rfl
    case isFalse h' =>
      rw [validateFlow_six_badSecond s h.symm (Ne.symm h')]
      exact ⟨rfl, rfl⟩
  case isFalse h =>
    rw [validateFlow_six_badFirst s (Ne.symm h)]
    exact ⟨rfl, rfl⟩

theorem afterValidate_three_status :
    (afterValidate [d0, d1, c] s).rsp.status =
      if c = crc8 [d0, d1] 0xFF 0x31 then .ok else .dataCorruption := by
  have hrsp := afterValidate_three_rsp d0 d1 c s
  split_ifs at hrsp ⊢
  · exact hrsp
  · exact hrsp.1

theorem afterValidate_six_status :
    (afterValidate [d0, d1, c, e0, e1, c'] s).rsp.status =
      if c = crc8 [d0, d1] 0xFF 0x31 ∧ c' = crc8 [e0, e1] 0xFF 0x31 then .ok else .dataCorruption := by
  have hrsp := afterValidate_six_rsp d0 d1 c e0 e1 c' s
  split_ifs at hrsp with h h'
  · rw [if_pos ⟨h, h'⟩]
    exact hrsp
  · rw [if_neg fun hgood => h' hgood.2]
    exact hrsp.1
  · rw [if_neg fun hgood => h hgood.1]
    exact hrsp.1

end

/-- The checksum of two bytes 0x00 (R144 d). -/
theorem crc8_zeros : crc8 [0x00, 0x00] 0xFF 0x31 = 0x81 := by
  simp [crc8, crc8Byte, crc8Bits, crc8Bit, BitVec.msb_eq_decide]

/-- The checksum of two bytes 0xFF (R144 d). -/
theorem crc8_ones : crc8 [0xFF, 0xFF] 0xFF 0x31 = 0xAC := by
  simp [crc8, crc8Byte, crc8Bits, crc8Bit, BitVec.msb_eq_decide]

/-! ### A readout that ends with a refused frame -/

/-- The error for a bad frame of six bytes: it names the sub-frame at offset 0 if that one is bad (R141, R152). -/
def firstMismatch (b : Bytes6) : Err :=
  if b.b2 = crc8 [b.b0, b.b1] 0xFF 0x31 then .dataCorruption (crc8 [b.b3, b.b4] 0xFF 0x31) b.b5 .second
  else .dataCorruption (crc8 [b.b0, b.b1] 0xFF 0x31) b.b2 .first

theorem errStatus_firstMismatch (b : Bytes6) : errStatus (firstMismatch b) = .dataCorruption := by
  unfold firstMismatch
  split <;> rfl

theorem respondError_firstMismatch_info (b : Bytes6) (s : State) :
    (respondError (firstMismatch b) s).rsp.info =
      if b.b2 = crc8 [b.b0, b.b1] 0xFF 0x31 then 0x03#8 ++ b.b5 ++ crc8 [b.b3, b.b4] 0xFF 0x31
      else 0x00#8 ++ b.b2 ++ crc8 [b.b0, b.b1] 0xFF 0x31 := by
  unfold firstMismatch
  split <;> rfl

theorem readMade_checked {n : Nat} (hn : n = 3 ∨ n = 6) (b : Bytes6) {s : State} (hc : s.checkEn = true)
    (acc : Byte) :
    ReadMade n b s (dropWorking n true ((afterRead n b s).setAcc acc)) := by
  have hmade := readMade_dropWorking hn b (s := s) (acc := acc) fun hc' => by simp [hc] at hc'
  rwa [hc] at hmade

section
variable {s : State} {b : Bytes6} (hc : s.checkEn = true) (hb : s.nextAnswer = .returned b) (dec : Memory → Result)
include hc hb

/-- Six bytes read and checked, of which a checksum is bad (R143). -/
theorem readout_six_bad (hbad : ¬ FrameGood b) :
    ∃ t, readout 6 dec s = .raise (firstMismatch b) t ∧ ReadMade 6 b s t := by
  obtain ⟨acc, hdecode⟩ := decodeLoaded_six_bad
    (s := s.dropAnswer.logEvent (.read s.params.devAddr 0 6 (firstBytes 6 b))) dec hc hbad
  exact ⟨_, (readout_returned hb 6 dec).trans hdecode, readMade_checked (.inr rfl) b hc acc⟩

/-- Three bytes read and checked, whose checksum is bad (R143). -/
theorem readout_three_bad (hbad : b.b2 ≠ crc8 [b.b0, b.b1] 0xFF 0x31) :
    ∃ t, readout 3 dec s = .raise (.dataCorruption (crc8 [b.b0, b.b1] 0xFF 0x31) b.b2 .first) t ∧
      ReadMade 3 b s t :=
  have hdecode := decodeLoaded_three_bad
    (s := s.dropAnswer.logEvent (.read s.params.devAddr 0 3 (firstBytes 3 b))) dec hc hbad
  ⟨_, (readout_returned hb 3 dec).trans hdecode, readMade_checked (.inl rfl) b hc _⟩

end

end Sys2Proof.Machine

/-! The obligations on VALIDATE and on corrupted readouts, settled. -/

namespace Sys2Proof.Machine

/-- Settles O46: by the length of the payload, and for a frame by its sub-frames in ascending offset. -/
theorem validateMeaning : Obligations.ValidateMeaning := by
  intro s din
  obtain ⟨⟨htransport, hmode⟩, hset, hin, -⟩ := (quiet_validateFlow din s).trans (quiet_complete _)
  refine ⟨_, exec_validate_eq din s, htransport, hmode, hset, hin, (ends_validateFlow din s).complete_seq,
    fun i hi => read_afterValidate_of_le hi s, fun h3 h6 => ?_, ?_, ?_⟩
  · rw [afterValidate_otherLength s h3 h6]
    have hend := argumentRefused_respondError .bufferLength s
    exact ⟨hend.status, hend.info, hend.working⟩
  · rintro d0 d1 c rfl
    exact afterValidate_three_rsp d0 d1 c s
  · rintro d0 d1 c e0 e1 c' rfl
    exact afterValidate_six_rsp d0 d1 c e0 e1 c' s

/-- Settles O47: a frame passes exactly when each of its checksum bytes is the computed one, which neither 0x00 nor
0xFF is for two data bytes of that value. -/
theorem validatorProperties : Obligations.ValidatorProperties := by
  refine ⟨fun s d0 d1 c => ?_, fun s s1 s2 d0 d1 c e0 e1 c' => ?_, fun s d0 d1 c e0 e1 => ?_, crc8_zeros, crc8_ones,
    fun s x hx n hn => ?_⟩
  · exact ⟨_, exec_validate_eq _ s, afterValidate_three_status d0 d1 c s⟩
  · refine ⟨_, _, _, exec_validate_eq _ s, exec_validate_eq _ s1, exec_validate_eq _ s2, ?_⟩
    rw [afterValidate_six_status, afterValidate_three_status, afterValidate_three_status]
    simp
  · refine ⟨_, exec_validate_eq _ s, ?_⟩
    rw [afterValidate_six_status]
    simp
  · have hne : crc8 [x, x] 0xFF 0x31 ≠ x := by
      obtain rfl | rfl := hx
      · rw [crc8_zeros]
        decide
      · rw [crc8_ones]
        decide
    obtain rfl | rfl := hn
    · exact refusesFrame_three s hne
    · exact refusesFrame_six_first s hne x x x

/-- Settles O55: the calls are those of a good frame, and the check that follows the read is the operation's last
step. -/
theorem corruptedMeasurementOrIdentifierIsReported : Obligations.CorruptedMeasurementOrIdentifierIsReported := by
  intro s a b i before hc hb ha hi hbad
  obtain ⟨u, dec, hsent, hnext, hexec⟩ : ∃ u dec, CommandSent before s u ∧ u.nextAnswer = .returned b ∧
      exec i s = answer (readout 6 dec u) := by
    obtain ⟨rfl, rfl⟩ | ⟨hi, hmode, rfl⟩ := hi
    · exact ⟨_, _, commandSent_afterSettling readIdWord s, hb,
        congrArg answer (commandedReadout_returned ha _ _ _)⟩
    · exact ⟨_, _, commandSent_afterCommand fetchWord s, hb, exec_fetch_returned hi hmode ha⟩
  obtain ⟨hcheck, hparams⟩ := hsent.settings
  obtain ⟨t, hread, hmade⟩ := readout_six_bad (hcheck.trans hc) hnext dec hbad
  have hevents := hmade.events
  rw [hsent.events, hparams] at hevents
  exact ⟨_, hexec.trans (congrArg answer hread), errStatus_firstMismatch b, respondError_firstMismatch_info b t,
    hevents, hsent.answers ▸ hmade.answers, hsent.mode.trans hmade.mode, hsent.settings.trans hmade.settings,
    hmade.inbox.trans hsent.inbox, rfl⟩

/-- Settles O56: READ_MEAS outside Periodic is its read and the check; GET_STATUS is a command, a sleep, a read of one
sub-frame and its check. -/
theorem corruptedSingleReadOrStatusIsReported : Obligations.CorruptedSingleReadOrStatusIsReported := by
  refine fun s a b hc ha => ⟨fun hmode hbad => ?_, fun hb hbad => ?_⟩
  · obtain ⟨t, hread, hmade⟩ := readout_six_bad hc ha decodeMeas hbad
    exact ⟨_, (exec_readMeas_of_not_periodic hmode).trans (congrArg answer hread), errStatus_firstMismatch a,
      respondError_firstMismatch_info a t, hmade.events, hmade.answers, hmade.mode, hmade.settings, hmade.inbox, rfl⟩
  · obtain ⟨t, hread, hmade⟩ := readout_three_bad (s := afterSettling readStatusWord s) hc hb decodeStatus hbad
    have hflow := (commandedReadout_returned ha readStatusWord 3 decodeStatus).trans hread
    exact ⟨_, congrArg answer hflow, rfl, rfl, hmade.events_afterSettling, hmade.answers, hmade.fb_above, hmade.mode,
      hmade.settings, hmade.inbox, rfl⟩

end Sys2Proof.Machine

/-! SUPPORT. Which errors the steps of an operation can raise (R151 to R154, R156): for each part of an operation, what
the errors it may raise are. -/

namespace Sys2Proof.Machine

/-- Whatever error the steps raise, `p` allows its STATUS. -/
def Flow.RaisesOnly {α : Type} (p : Status → Bool) : Flow α → Prop
  | .raise e _ => p (errStatus e) = true
  | .ok _ _ => True
  | .hang _ => True

/-! ### Steps one after the other -/

section
variable {α β : Type} {p : Status → Bool} {x : Flow α}

/-- The later steps begin in the state in which the earlier ones ended (R157). -/
theorem Flow.RaisesOnly.bind {f : α → State → Flow β} (h : x.RaisesOnly p)
    (hf : ∀ a, (f a x.final).RaisesOnly p) : (x.bind f).RaisesOnly p := by
  cases x with
  | ok a t => exact hf a
  | raise e t => exact h
  | hang t => trivial

theorem Flow.RaisesOnly.mapState (h : x.RaisesOnly p) (g : State → State) : (x.mapState g).RaisesOnly p := by
  cases x with
  | ok a t => trivial
  | raise e t => exact h
  | hang t => trivial

end

/-- An operation that ends has STATUS OK or that of the error its steps raised (R57). -/
theorem Flow.RaisesOnly.complete_status {p : Status → Bool} {x : Flow Result} (h : x.RaisesOnly p)
    (hok : p .ok = true) (hidle : (complete x).seq = .idle) : p (complete x).rsp.status = true := by
  cases x with
  | ok r t => cases r <;> exact hok
  | raise e t => exact h
  | hang t => cases hidle

section
variable {p : Status → Bool}

/-! ### The validator -/

theorem raisesOnly_checkSubFrame (hcorrupt : p .dataCorruption = true) (place : SubFrame) (d0 d1 c : Byte)
    (s : State) : (checkSubFrame place d0 d1 c s).RaisesOnly p := by
  by_cases h : crc8 [d0, d1] 0xFF 0x31 = c
  · rw [checkSubFrame_good h]
    trivial
  · rw [checkSubFrame_bad h]
    exact hcorrupt

/-- A length that is no frame's is an invalid argument, a bad checksum a corruption (R141). -/
theorem raisesOnly_validate (hargument : p .invalidArgument = true) (hcorrupt : p .dataCorruption = true)
    (buf : List Byte) (s : State) : (validate buf s).RaisesOnly p := by
  unfold validate
  split
  · exact raisesOnly_checkSubFrame hcorrupt _ _ _ _ s
  · exact (raisesOnly_checkSubFrame hcorrupt _ _ _ _ s).bind fun _ =>
      raisesOnly_checkSubFrame hcorrupt _ _ _ _ _
  · exact hargument

theorem raisesOnly_validateFlow (hargument : p .invalidArgument = true) (hcorrupt : p .dataCorruption = true)
    (din : List Byte) (s : State) : (validateFlow din s).RaisesOnly p := by
  unfold validateFlow
  split
  · exact ((raisesOnly_validate hargument hcorrupt din _).mapState _).bind fun _ => trivial
  · exact (raisesOnly_validate hargument hcorrupt din s).bind fun _ => trivial

/-! ### GET_CYCLE -/

theorem raisesOnly_cycleResult (us : Option Nat) (s : State) : (cycleResult us s).RaisesOnly p := by
  cases us with
  | none => trivial
  | some n => trivial

/-- GET_CYCLE is unsupported in Idle, and raises no other error (R104). -/
theorem raisesOnly_getCycleFlow {s : State} (hidle : s.mode = .idle → p .unsupportedOperation = true)
    (preferMin : Bool) : (getCycleFlow preferMin s).RaisesOnly p := by
  unfold getCycleFlow
  split
  case h_1 hmode => exact hidle hmode
  case h_2 => exact raisesOnly_cycleResult _ s
  case h_3 => exact raisesOnly_cycleResult _ s

/-! ### The operations that call the transport -/

theorem checkEn_final_sendCmd (w : Half) (s : State) : (sendCmd w s).final.checkEn = s.checkEn := by
  obtain ⟨b, -, h⟩ | ⟨-, h⟩ | ⟨-, h⟩ := sendCmd_cases w s
  all_goals
    rw [h]
    rfl

section
variable (htransport : p .transportFailure = true)
include htransport

theorem raisesOnly_sendCmd (w : Half) (s : State) : (sendCmd w s).RaisesOnly p := by
  obtain ⟨b, -, h⟩ | ⟨-, h⟩ | ⟨-, h⟩ := sendCmd_cases w s <;> rw [h]
  · trivial
  · exact htransport
  · trivial

/-- What follows the one command raises nothing (R86). -/
theorem raisesOnly_sendThen (w : Half) (rest : State → State) (s : State) : (sendThen w rest s).RaisesOnly p :=
  (raisesOnly_sendCmd htransport w s).bind fun _ => trivial

/-- START_SS: its selector is refused, or it is one command (R101). -/
theorem raisesOnly_startSsFlow (hargument : p .invalidArgument = true) (rep : Nat) (s : State) :
    (startSsFlow rep s).RaisesOnly p := by
  unfold startSsFlow
  split
  · exact hargument
  · exact raisesOnly_sendThen htransport _ _ s

/-- START_PER: one of its selectors is refused, or it is one command (R102). -/
theorem raisesOnly_startPerFlow (hargument : p .invalidArgument = true) (rep rate : Nat) (s : State) :
    (startPerFlow rep rate s).RaisesOnly p := by
  unfold startPerFlow
  split
  · exact hargument
  · exact hargument
  · exact raisesOnly_sendThen htransport _ _ s

/-- The frame just read has a length that the validator accepts, so the check can only find it corrupted (R143). -/
theorem raisesOnly_readout {n : Nat} (hn : n = 3 ∨ n = 6) {s : State}
    (hcorrupt : s.checkEn = true → p .dataCorruption = true) (dec : Memory → Result) :
    (readout n dec s).RaisesOnly p := by
  obtain ⟨b, a, -, h⟩ | ⟨b, a, c, e, place, -, hcheck, h⟩ | ⟨-, h⟩ | ⟨-, h⟩ := readout_cases hn dec s <;> rw [h]
  · trivial
  · exact hcorrupt hcheck
  · exact htransport
  · trivial

/-- A command and then a readout, CHECK_EN being what it was before the command. -/
theorem raisesOnly_sendCmd_readout {n : Nat} (hn : n = 3 ∨ n = 6) {s : State}
    (hcorrupt : s.checkEn = true → p .dataCorruption = true) {settle : State → State}
    (hsettle : ∀ t, (settle t).checkEn = t.checkEn) (w : Half) (dec : Memory → Result) :
    ((sendCmd w s).bind fun _ t => readout n dec (settle t)).RaisesOnly p := by
  refine (raisesOnly_sendCmd htransport w s).bind fun _ => raisesOnly_readout htransport hn (fun hcheck => ?_) dec
  rw [hsettle, checkEn_final_sendCmd] at hcheck
  exact hcorrupt hcheck

theorem raisesOnly_commandedReadout {n : Nat} (hn : n = 3 ∨ n = 6) {s : State}
    (hcorrupt : s.checkEn = true → p .dataCorruption = true) (w : Half) (dec : Memory → Result) :
    (commandedReadout w n dec s).RaisesOnly p :=
  raisesOnly_sendCmd_readout htransport hn hcorrupt (settle := sleep settleUs) (fun _ => rfl) w dec

theorem raisesOnly_readMeasFlow {s : State} (hcorrupt : s.checkEn = true → p .dataCorruption = true) :
    (readMeasFlow s).RaisesOnly p := by
  by_cases hmode : s.mode = .periodic
  · rw [readMeasFlow_of_periodic hmode]
    exact raisesOnly_sendCmd_readout htransport (.inr rfl) hcorrupt (settle := id) (fun _ => rfl) fetchWord decodeMeas
  · rw [readMeasFlow_of_not_periodic hmode]
    exact raisesOnly_readout htransport (.inr rfl) hcorrupt decodeMeas

/-- NEXT raises what READ_MEAS does, and is unsupported outside Periodic (R127). -/
theorem raisesOnly_iterNextFlow {s : State} (hcorrupt : s.checkEn = true → p .dataCorruption = true)
    (hunsupported : s.mode ≠ .periodic → p .unsupportedOperation = true) : (iterNextFlow s).RaisesOnly p := by
  by_cases hmode : s.mode = .periodic
  · rw [iterNextFlow_of_periodic hmode]
    exact raisesOnly_readMeasFlow htransport hcorrupt
  · rw [iterNextFlow_of_not_periodic hmode]
    exact hunsupported hmode

end
end

/-- The steps of an operation raise the errors of its row in the matrix only (R156). -/
theorem exec_operation_raisesOnly {i : Instr} (hop : isOperation i = true) (s : State) :
    ∃ x, exec i s = answer x ∧ x.RaisesOnly (mayEndAs i s) := by
  cases i with
  | crc8 seed poly din => exact ⟨crc8Flow seed poly din s, rfl, trivial⟩
  | validate din => exact ⟨_, rfl, raisesOnly_validateFlow rfl rfl din s⟩
  | startSs rep => exact ⟨_, rfl, raisesOnly_startSsFlow rfl rfl rep s⟩
  | startPer rep rate => exact ⟨_, rfl, raisesOnly_startPerFlow rfl rfl rep rate s⟩
  | getCycle preferMin => exact ⟨_, rfl, raisesOnly_getCycleFlow (fun hmode => decide_eq_true hmode) preferMin⟩
  | readMeas => exact ⟨_, rfl, raisesOnly_readMeasFlow rfl id⟩
  | iterNext => exact ⟨_, rfl, raisesOnly_iterNextFlow rfl id fun hmode => decide_eq_true hmode⟩
  | getId => exact ⟨_, rfl, raisesOnly_commandedReadout rfl (.inr rfl) id readIdWord decodeId⟩
  | getStatus => exact ⟨_, rfl, raisesOnly_commandedReadout rfl (.inl rfl) id readStatusWord decodeStatus⟩
  | softReset => exact ⟨_, rfl, raisesOnly_sendThen rfl softResetWord _ s⟩
  | setHeater on => exact ⟨_, rfl, raisesOnly_sendThen rfl _ _ s⟩
  | sendBreak => exact ⟨_, rfl, raisesOnly_sendThen rfl breakWord _ s⟩
  | _ => cases hop

end Sys2Proof.Machine

/-! The obligation on the outcome matrix, settled. -/

namespace Sys2Proof.Machine

/-- Settles O21: an operation that ends has STATUS OK, which every row allows, or that of an error its steps raised. -/
theorem operationsEndAsTheMatrixAllows : Obligations.OperationsEndAsTheMatrixAllows := by
  intro i s t hop hexec hidle
  obtain ⟨x, hx, hraises⟩ := exec_operation_raisesOnly hop s
  obtain rfl := Host.Outcome.next.inj (hx.symm.trans hexec)
  exact hraises.complete_status rfl hidle

end Sys2Proof.Machine

/-! SUPPORT. A transport call that never returns (R187; log 5): the calls with which instructions begin (R86), and the
blocked state in which one of them that is not answered leaves the block. -/

namespace Sys2Proof.Machine

/-! ### The blocked block -/

/-- The state in which an instruction stands whose transport call never returns (R187; log 5). -/
def afterUnansweredCall (s : State) : State := s.dropAnswer.block

/-- From s to t a transport call has been made that never returns: the sequencer is blocked, its answer is the one
used, no event is added, and no register but RSP is written (R187; log 5). -/
structure CallUnanswered (s t : State) : Prop where
  seq : t.seq = .blocked
  events : t.events = s.events
  answers : t.answers = s.answers.tail
  mode : SameMode s t
  settings : SameSettings s t
  working : SameWorking s t
  inbox : t.inbox = s.inbox

theorem callUnanswered_afterUnansweredCall (s : State) : CallUnanswered s (afterUnansweredCall s) where
  seq := rfl
  events := rfl
  answers := rfl
  mode := ⟨rfl, rfl, rfl⟩
  settings := ⟨rfl, rfl⟩
  working := ⟨rfl, fun _ => rfl, rfl⟩
  inbox := rfl

/-- A call that never returns after a command that was sent: the command's events are all that is new. -/
theorem CommandSent.callUnanswered {before : List Event} {s u t : State} (hsent : CommandSent before s u)
    (h : CallUnanswered u t) :
    t.seq = .blocked ∧ t.events = s.events ++ before ∧ t.answers = s.answers.tail.tail ∧
      SameMode s t ∧ SameSettings s t ∧ SameWorking s t ∧ t.inbox = s.inbox :=
  ⟨h.seq, h.events.trans hsent.events, hsent.answers ▸ h.answers, hsent.mode.trans h.mode,
    hsent.settings.trans h.settings, hsent.working.trans h.working, h.inbox.trans hsent.inbox⟩

theorem step_of_blocked {s : State} (h : s.seq = .blocked) : step s = .fault .transportNeverReturned := by
  simp only [step, h]

/-! ### The call with which an instruction begins -/

/-- From s the instruction begins with a transport call: a command on its own, a command before its other steps, or a
read before its other steps (R86). -/
inductive BeginsWithCall (i : Instr) (s : State) : Prop where
  | emission (w : Half) (hexec : exec i s = emit w s)
  | command (w : Half) (rest : Unit → State → Flow Result) (hexec : exec i s = answer ((sendCmd w s).bind rest))
  | read (n : Nat) (rest : List Byte → State → Flow Result) (hexec : exec i s = answer ((busReadReg n s).bind rest))

theorem beginsWithCall_of_command {i : Instr} (h : isOperation i = false) (s : State) : BeginsWithCall i s := by
  obtain ⟨word, -, hexec⟩ := exec_eq_emit h
  exact .emission _ (hexec s)

/-- Every instruction that makes a call begins with one: nothing is written before it (R86). -/
theorem beginsWithCall {i : Instr} {s : State} (hcall : makesCall i s = true) : BeginsWithCall i s := by
  cases i with
  | crc8 seed poly din => cases hcall
  | validate din => cases hcall
  | getCycle preferMin => cases hcall
  | startSs rep =>
    obtain ⟨r, hr⟩ := repOf_of_le (of_decide_eq_true hcall)
    exact .command _ _ (congrArg answer (startSsFlow_of_repOf s hr))
  | startPer rep rate =>
    obtain ⟨hrep, hrate⟩ : rep ≤ 2 ∧ rate ≤ 4 := by simpa [makesCall] using hcall
    obtain ⟨r, hr⟩ := repOf_of_le hrep
    obtain ⟨q, hq⟩ := rateOf_of_le hrate
    exact .command _ _ (congrArg answer (startPerFlow_of_repOf_rateOf s hr hq))
  | readMeas =>
    by_cases hmode : s.mode = .periodic
    · exact .command _ _ (congrArg answer (readMeasFlow_of_periodic hmode))
    · exact .read _ _ (congrArg answer (readMeasFlow_of_not_periodic hmode))
  | iterNext =>
    have hmode : s.mode = .periodic := of_decide_eq_true hcall
    exact .command _ _ (congrArg answer ((iterNextFlow_of_periodic hmode).trans (readMeasFlow_of_periodic hmode)))
  | getId => exact .command _ _ rfl
  | getStatus => exact .command _ _ rfl
  | softReset => exact .command _ _ rfl
  | setHeater on => exact .command _ _ rfl
  | sendBreak => exact .command _ _ rfl
  | _ => exact beginsWithCall_of_command rfl s

/-! ### A call that never returns -/

section
variable {s : State} (h : s.nextAnswer = .never)
include h

theorem exec_of_firstCall_never {i : Instr} (hcall : makesCall i s = true) :
    exec i s = .next (afterUnansweredCall s) := by
  cases beginsWithCall hcall with
  | emission w hexec => exact hexec.trans (emit_never h w)
  | command w rest hexec =>
    rw [hexec, sendCmd_never h, Flow.bind_hang]
    rfl
  | read n rest hexec =>
    rw [hexec, busReadReg_never h, Flow.bind_hang]
    rfl

theorem answer_readout_never (n : Nat) (dec : Memory → Result) :
    answer (readout n dec s) = .next (afterUnansweredCall s) :=
  congrArg answer (readout_never h n dec)

end

theorem answer_commandedReadout_never {s : State} {a : Bytes6} (ha : s.nextAnswer = .returned a)
    (hb : s.dropAnswer.nextAnswer = .never) (w : Half) (n : Nat) (dec : Memory → Result) :
    answer (commandedReadout w n dec s) = .next (afterUnansweredCall (afterSettling w s)) := by
  rw [commandedReadout_returned ha]
  exact answer_readout_never (s := afterSettling w s) hb n dec

end Sys2Proof.Machine

/-! The obligations on reset and on the block that waits for ever on the transport, settled. -/

namespace Sys2Proof.Machine

/-- Settles O11. -/
theorem blockedBlockHasNoStep : Obligations.BlockedBlockHasNoStep := fun _ => step_of_blocked

/-- Settles O13: every item is a field of the reset state, and with an empty inbox the idle block waits. -/
theorem resetLeavesIdleWithNoSelectors : Obligations.ResetLeavesIdleWithNoSelectors :=
  ⟨fun _ _ => ⟨rfl, rfl, rfl, rfl, rfl, rfl, rfl, step_of_nil rfl rfl⟩, rfl⟩

/-- Settles O25: the instruction stops at the call that never returns, whether it is the first call or the read after a
command; the command's events are then in the history. -/
theorem unansweredCallBlocks : Obligations.UnansweredCallBlocks := by
  refine ⟨fun i s hcall hnever => ?_, fun s a i before ha hb hi => ?_⟩
  · obtain ⟨hseq, hevents, hanswers, hmode, hset, hworking, hin⟩ := callUnanswered_afterUnansweredCall s
    exact ⟨_, exec_of_firstCall_never hnever hcall, hseq, hevents, hanswers, hmode, hset, hworking, hin⟩
  · obtain ⟨u, hsent, hexec⟩ : ∃ u, CommandSent before s u ∧ exec i s = .next (afterUnansweredCall u) := by
      obtain ⟨rfl, rfl⟩ | ⟨rfl, rfl⟩ | ⟨hi, hmode, rfl⟩ := hi
      · exact ⟨_, commandSent_afterSettling readIdWord s, answer_commandedReadout_never ha hb _ _ _⟩
      · exact ⟨_, commandSent_afterSettling readStatusWord s, answer_commandedReadout_never ha hb _ _ _⟩
      · exact ⟨_, commandSent_afterCommand fetchWord s,
          (exec_fetch_returned hi hmode ha).trans (answer_readout_never (s := afterCommand fetchWord s) hb _ _)⟩
    exact ⟨_, hexec, hsent.callUnanswered (callUnanswered_afterUnansweredCall u)⟩

end Sys2Proof.Machine

/-! SUPPORT. The errors whose INFO is a low byte and nothing above it (R57; log 12, DEDUCED), and the end of an
operation that raised one. -/

namespace Sys2Proof.Machine

/-- STATUS of an error for which R57 gives INFO[7:0] only. -/
def HasLowByteInfo (status : Status) : Prop :=
  status = .invalidArgument ∨ status = .transportFailure ∨ status = .unsupportedOperation

/-- Such an error's INFO holds its low field alone; of the two others, one has three fields and one has none. -/
theorem respondError_info_lt {e : Err} (he : HasLowByteInfo (errStatus e)) (s : State) :
    (respondError e s).rsp.info.toNat < 256 := by
  cases e with
  | invalidArgument reason => exact packInfo_zero_lt (reasonCode reason)
  | transportFailure call => exact packInfo_zero_lt (callCode call)
  | unsupportedOperation mode => exact packInfo_zero_lt ((modeCode mode).setWidth 8)
  | dataCorruption computed expected place => simp [HasLowByteInfo, errStatus] at he
  | illegalRequest => simp [HasLowByteInfo, errStatus] at he

theorem respondOk_status (r : Result) (s : State) : (respondOk r s).rsp.status = .ok := by
  cases r <;> rfl

/-- An operation that ends with such an error has raised it; one that never ends leaves the sequencer blocked. -/
theorem complete_info_lt {x : Flow Result} (hidle : (complete x).seq = .idle)
    (hstatus : HasLowByteInfo (complete x).rsp.status) : (complete x).rsp.info.toNat < 256 := by
  cases x with
  | ok r t => simp [HasLowByteInfo, complete, respondOk_status] at hstatus
  | raise e t => exact respondError_info_lt hstatus t
  | hang t => cases hidle

end Sys2Proof.Machine

/-! The obligations on INFO above its low byte and on the reference checksums, settled. -/

namespace Sys2Proof.Machine

/-- Settles O26: every operation answers with the end of its steps. -/
theorem infoIsZeroAboveItsLowByte : Obligations.InfoIsZeroAboveItsLowByte := by
  intro i s t hop hexec hidle hstatus
  obtain ⟨x, hx, -⟩ := exec_operation_raisesOnly hop s
  obtain rfl := Host.Outcome.next.inj (hx.symm.trans hexec)
  exact complete_info_lt hidle hstatus

/-- Settles O45, by computing both checksums. -/
theorem checksumReferenceValues : Obligations.ChecksumReferenceValues := by
  unfold Obligations.ChecksumReferenceValues
  decide +kernel

end Sys2Proof.Machine
